-- ==== Sys2Proof/Word.lean ====
section
/-!
DEFINITION. The word types of the hardware and the small records its registers hold
(spec/00_scope.md R7, R8; spec/10_state.md R28 to R30; spec/46_numeric_primitives.md R250).
-/

namespace Sys2Proof

/-- One byte of the stream S or of the colour buffer CB. -/
abbrev Byte := BitVec 8

/-- A 64-bit word: a command word (R97), a block word (R91), a control-register value (R32). -/
abbrev Word64 := BitVec 64

/-- A `FLOAT`: the 32-bit pattern of a binary32 value (spec/46_numeric_primitives.md R250). -/
abbrev F32 := BitVec 32

/-- The patterns of the `FLOAT` values in [0.0, 1.0], from +0.0 to 1.0 (0x3F800000): what an
external pass returns (spec/42_channel_compositor.md R166; log entry 18). -/
abbrev UnitF32 := Fin 0x3F800001

/-- Channel 0 (red) and channel 1 (green), spec/00_scope.md section 7. -/
inductive Chan where
  | red
  | green
deriving DecidableEq, Repr

/-- A block register: two reference values and the 48-bit index field
(spec/10_state.md R28). -/
structure Block where
  ref0 : Byte
  ref1 : Byte
  idx  : BitVec 48
deriving DecidableEq, Repr

/-- The three output channels of one pixel, PIX24 (spec/10_state.md R30,
spec/30_encoding.md R102). -/
structure Pixel where
  r : Byte
  g : Byte
  b : Byte
deriving DecidableEq, Repr

/-- An exact rational value `num / den`, `den` positive wherever a rule forms one: what an
arithmetic primitive computes before its one rounding (spec/46_numeric_primitives.md R251). -/
structure Ratio where
  num : Int
  den : Nat
deriving DecidableEq, Repr

end Sys2Proof
end

