-- ==== Sys2Proof/Syntax.lean ====
section
/-!
DEFINITION. The instructions: one constructor per row of spec/opcode_table.json, and the
encoded forms they are read from (spec/30_encoding.md R90).
-/

namespace Sys2Proof

/-- One constructor per row of the opcode table, in the table's order. Operands that the row's
bits do not hold but the place the code is read from gives (the channel of a block, the channel
and lane of an index code) are operands here as well (log entry 8). -/
inductive Instr where
  /-- CONSTRUCT (R232): `fmt` = {ISBC5, ISBC4}, width and height in texels. -/
  | construct (fmt : BitVec 2) (w h : BitVec 16)
  /-- VALIDATE (R233). -/
  | validate
  /-- DECODE (R234) with its PASS_SEL field. -/
  | decode (passSel : BitVec 2)
  /-- A command word with OP = 0 (R235); `rest` is its bits 63:3. -/
  | illegalOp0 (rest : BitVec 61)
  /-- A command word with OP = 4..7 (R235); `rest` is its bits 63:3, `low` its bits 1:0. -/
  | illegalOp4to7 (rest : BitVec 61) (low : BitVec 2)
  /-- A command word with OP = 1..3 that is not legal (R235). -/
  | illegalOther (w : Word64)
  /-- BLOCK (R91, R121): the compressed block read for channel `c`. -/
  | block (c : Chan) (ref0 ref1 : Byte) (idx : BitVec 48)
  /-- Index code 0, either regime (R141), for lane `lane` of channel `c`. -/
  | i0 (c : Chan) (lane : BitVec 4)
  /-- Index code 1, either regime (R142). -/
  | i1 (c : Chan) (lane : BitVec 4)
  /-- Index code 2, 6-step regime (R143). -/
  | i2Six (c : Chan) (lane : BitVec 4)
  /-- Index code 3, 6-step regime (R143). -/
  | i3Six (c : Chan) (lane : BitVec 4)
  /-- Index code 4, 6-step regime (R143). -/
  | i4Six (c : Chan) (lane : BitVec 4)
  /-- Index code 5, 6-step regime (R143). -/
  | i5Six (c : Chan) (lane : BitVec 4)
  /-- Index code 6, 6-step regime (R143). -/
  | i6Six (c : Chan) (lane : BitVec 4)
  /-- Index code 7, 6-step regime (R143). -/
  | i7Six (c : Chan) (lane : BitVec 4)
  /-- Index code 2, 4-step regime (R144). -/
  | i2Four (c : Chan) (lane : BitVec 4)
  /-- Index code 3, 4-step regime (R144). -/
  | i3Four (c : Chan) (lane : BitVec 4)
  /-- Index code 4, 4-step regime (R144). -/
  | i4Four (c : Chan) (lane : BitVec 4)
  /-- Index code 5, 4-step regime (R144). -/
  | i5Four (c : Chan) (lane : BitVec 4)
  /-- Index code 6, 4-step regime: 0.0 (R145). -/
  | i6Four (c : Chan) (lane : BitVec 4)
  /-- Index code 7, 4-step regime: 1.0 (R146). -/
  | i7Four (c : Chan) (lane : BitVec 4)
  /-- Format code 0b00 (R100, R231). -/
  | fmtNone
  /-- Format code 0b01, BC4 (R100). -/
  | fmtBc4
  /-- Format code 0b10, BC5 (R100). -/
  | fmtBc5
  /-- Format code 0b11 (R100, R231). -/
  | fmtBoth
  /-- Pass code 0, the void pass (R163). -/
  | passVoid
  /-- Pass code 1, the normal-map pass (R164). -/
  | passNormal
  /-- Pass code 2, the external pass (R166). -/
  | passExt
  /-- Pass code 3, reserved (R285). -/
  | passReserved
  /-- SEQ = 0 (R196). -/
  | idle
  /-- SEQ = 1 (R197). -/
  | check
  /-- SEQ = 2, BEGIN (R198). -/
  | beginDecode
  /-- SEQ = 3 (R121). -/
  | rdblkR
  /-- SEQ = 4 (R121). -/
  | rdblkG
  /-- SEQ = 5 (R149). -/
  | interpR
  /-- SEQ = 6 (R149). -/
  | interpG
  /-- SEQ = 7 (R161). -/
  | zfill
  /-- SEQ = 8 (R202). -/
  | texxy
  /-- SEQ = 9 (R171). -/
  | comp
  /-- SEQ = 10 (R212). -/
  | wrpix
  /-- SEQ = 11, NEXT (R204). -/
  | nextTile
  /-- SEQ = 12 (R206). -/
  | finish
  /-- SEQ = 13, reserved (R24). -/
  | seqReserved13
  /-- SEQ = 14, reserved (R24). -/
  | seqReserved14
  /-- SEQ = 15, reserved (R24). -/
  | seqReserved15
deriving DecidableEq, Repr

/-- Where a code is read from, which fixes its format (R90): the command port, the block of a
channel, a lane of a channel's index field, the FMT register, a pass code, the SEQ register. -/
inductive Source where
  | cmd64
  | blk64 (c : Chan)
  | idx3 (c : Chan) (lane : BitVec 4)
  | fmt2
  | pass2
  | seq4
deriving DecidableEq, Repr

/-- A code together with the place it is read from, at its exact width (R90). -/
inductive Encoded where
  | cmd (w : Word64)
  | blk (c : Chan) (w : Word64)
  | idx (c : Chan) (lane : BitVec 4) (code : BitVec 3)
  | fmt (code : BitVec 2)
  | pass (code : BitVec 2)
  | seq (code : BitVec 4)
deriving DecidableEq, Repr

/-- Why bytes are no code of a format: every format has a fixed length (R109). -/
inductive Reject where
  /-- the number of bytes is not the format's -/
  | wrongLength
  /-- a bit above the code's width is 1 -/
  | bitsAboveWidth
deriving DecidableEq, Repr

end Sys2Proof
end

