-- ==== Sys2Proof/WellFormed.lean ====
section
/-!
DEFINITION. Which terms of `Instr` stand for a row of the opcode table, and which regime a row
asks for (spec/30_encoding.md R96, R99; the `condition` and `priority` of spec/opcode_table.json).
-/

namespace Sys2Proof

/-- The bits that CONSTRUCT fixes, and their value (R236; the table's mask and match). -/
def constructMask : Word64 := 0xFFFF00000000FFCF#64

/-- The bits that DECODE fixes (R236; the table's mask). -/
def decodeMask : Word64 := 0xFFFFFFFFFFFFFF3F#64

/-- The words of the row ILLEGAL_OTHER: OP is 1, 2 or 3 and none of CONSTRUCT, VALIDATE and
DECODE matches (the row's note in the table; R99). -/
def otherIllegal (w : Word64) : Bool :=
  (w.extractLsb' 0 3 == 1#3 || w.extractLsb' 0 3 == 2#3 || w.extractLsb' 0 3 == 3#3)
    && !(w &&& constructMask == 1#64) && !(w == 2#64) && !(w &&& decodeMask == 3#64)

/-- Every term is well-formed but an `illegalOther` whose word another row matches first. -/
def Instr.wf : Instr → Bool
  | .illegalOther w => otherIllegal w
  | _ => true

/-- The regime a row is limited to: `some true` the 6-step, `some false` the 4-step, `none` for
the rows that hold in either (the table's `condition`; R96). -/
def Instr.regime : Instr → Option Bool
  | .i2Six _ _ | .i3Six _ _ | .i4Six _ _ | .i5Six _ _ | .i6Six _ _ | .i7Six _ _ => some true
  | .i2Four _ _ | .i3Four _ _ | .i4Four _ _ | .i5Four _ _ | .i6Four _ _ | .i7Four _ _ => some false
  | _ => none

/-- The row holds in the regime `six`. -/
def Instr.fits (i : Instr) (six : Bool) : Bool :=
  match i.regime with
  | none => true
  | some r => r == six

end Sys2Proof
end

