-- ==== Sys2Proof/Decode.lean ====
section
/-!
DEFINITION. The decoder of the six formats, total on any code and on any bytes, and the encoder
beside it (spec/30_encoding.md R90 to R104; spec/10_state.md R24).
-/

namespace Sys2Proof

/-- The SEQ codes of the sequencer's states (spec/10_state.md R24). -/
def seqIdle : BitVec 4 := 0#4
/-- SEQ = 1 (R24). -/
def seqCheck : BitVec 4 := 1#4
/-- SEQ = 2 (R24). -/
def seqBegin : BitVec 4 := 2#4
/-- SEQ = 3 (R24). -/
def seqRdblkR : BitVec 4 := 3#4
/-- SEQ = 4 (R24). -/
def seqRdblkG : BitVec 4 := 4#4
/-- SEQ = 5 (R24). -/
def seqInterpR : BitVec 4 := 5#4
/-- SEQ = 6 (R24). -/
def seqInterpG : BitVec 4 := 6#4
/-- SEQ = 7 (R24). -/
def seqZfill : BitVec 4 := 7#4
/-- SEQ = 8 (R24). -/
def seqTexxy : BitVec 4 := 8#4
/-- SEQ = 9 (R24). -/
def seqComp : BitVec 4 := 9#4
/-- SEQ = 10 (R24). -/
def seqWrpix : BitVec 4 := 10#4
/-- SEQ = 11 (R24). -/
def seqNext : BitVec 4 := 11#4
/-- SEQ = 12 (R24). -/
def seqFinish : BitVec 4 := 12#4

/-- The little-endian word of a list of bytes, the byte at the lowest offset first (R63). -/
def leNat : List Byte → Nat
  | [] => 0
  | b :: bs => b.toNat + 256 * leNat bs

/-- The 8 bytes of a word in ascending offset, the least significant first (R63). -/
def leBytes (w : Word64) : List Byte :=
  [w.extractLsb' 0 8, w.extractLsb' 8 8, w.extractLsb' 16 8, w.extractLsb' 24 8,
   w.extractLsb' 32 8, w.extractLsb' 40 8, w.extractLsb' 48 8, w.extractLsb' 56 8]

/-- The command word: the rows of CMD64 tried in their order of priority (R97 to R99, R236). -/
def decodeCommand (w : Word64) : Instr :=
  if w &&& constructMask = 1#64 then
    .construct (w.extractLsb' 4 2) (w.extractLsb' 16 16) (w.extractLsb' 32 16)
  else if w = 2#64 then .validate
  else if w &&& decodeMask = 3#64 then .decode (w.extractLsb' 6 2)
  else if w.extractLsb' 0 3 = 0#3 then .illegalOp0 (w.extractLsb' 3 61)
  else if w.extractLsb' 2 1 = 1#1 then .illegalOp4to7 (w.extractLsb' 3 61) (w.extractLsb' 0 2)
  else .illegalOther w

/-- The block word read for channel `c` (R91): every word is a legal block (R93). -/
def decodeBlock (c : Chan) (w : Word64) : Instr :=
  .block c (w.extractLsb' 0 8) (w.extractLsb' 8 8) (w.extractLsb' 16 48)

/-- The index code of a lane, whose meaning depends on the regime (R96); none is reserved. -/
def decodeIndex (six : Bool) (c : Chan) (lane : BitVec 4) (code : BitVec 3) : Instr :=
  match code.toNat, six with
  | 0, _ => .i0 c lane
  | 1, _ => .i1 c lane
  | 2, true => .i2Six c lane
  | 3, true => .i3Six c lane
  | 4, true => .i4Six c lane
  | 5, true => .i5Six c lane
  | 6, true => .i6Six c lane
  | _, true => .i7Six c lane
  | 2, false => .i2Four c lane
  | 3, false => .i3Four c lane
  | 4, false => .i4Four c lane
  | 5, false => .i5Four c lane
  | 6, false => .i6Four c lane
  | _, false => .i7Four c lane

/-- The format code {isBC5, isBC4} (R100). -/
def decodeFormat (code : BitVec 2) : Instr :=
  match code.toNat with
  | 0 => .fmtNone
  | 1 => .fmtBc4
  | 2 => .fmtBc5
  | _ => .fmtBoth

/-- The pass code (R104). -/
def decodePass (code : BitVec 2) : Instr :=
  match code.toNat with
  | 0 => .passVoid
  | 1 => .passNormal
  | 2 => .passExt
  | _ => .passReserved

/-- The sequencer state code (R24). -/
def decodeSeq (code : BitVec 4) : Instr :=
  match code.toNat with
  | 0 => .idle
  | 1 => .check
  | 2 => .beginDecode
  | 3 => .rdblkR
  | 4 => .rdblkG
  | 5 => .interpR
  | 6 => .interpG
  | 7 => .zfill
  | 8 => .texxy
  | 9 => .comp
  | 10 => .wrpix
  | 11 => .nextTile
  | 12 => .finish
  | 13 => .seqReserved13
  | 14 => .seqReserved14
  | _ => .seqReserved15

/-- The decoder, total on every code of every format; `six` is the regime of the block an index
code is read from, and no other format looks at it (R90, R96). -/
def decode (six : Bool) : Encoded → Instr
  | .cmd w => decodeCommand w
  | .blk c w => decodeBlock c w
  | .idx c lane code => decodeIndex six c lane code
  | .fmt code => decodeFormat code
  | .pass code => decodePass code
  | .seq code => decodeSeq code

/-- A small code of `width` bits held in one byte. -/
def smallCode (width : Nat) (bs : List Byte) : Except Reject Nat :=
  match bs with
  | [b] => if b.toNat < 2 ^ width then .ok b.toNat else .error .bitsAboveWidth
  | _ => .error .wrongLength

/-- Eight bytes as a 64-bit word. -/
def wordCode (bs : List Byte) : Except Reject Word64 :=
  if bs.length = 8 then .ok (BitVec.ofNat 64 (leNat bs)) else .error .wrongLength

/-- The code that bytes hold for a format, or the reason they hold none. -/
def readCode (src : Source) (bs : List Byte) : Except Reject Encoded :=
  match src with
  | .cmd64 => (wordCode bs).map Encoded.cmd
  | .blk64 c => (wordCode bs).map (Encoded.blk c)
  | .idx3 c lane => (smallCode 3 bs).map fun n => .idx c lane (BitVec.ofNat 3 n)
  | .fmt2 => (smallCode 2 bs).map fun n => .fmt (BitVec.ofNat 2 n)
  | .pass2 => (smallCode 2 bs).map fun n => .pass (BitVec.ofNat 2 n)
  | .seq4 => (smallCode 4 bs).map fun n => .seq (BitVec.ofNat 4 n)

/-- The decoder on bytes: total, and it rejects by name what is no code of the format. -/
def decodeBytes (src : Source) (six : Bool) (bs : List Byte) : Except Reject Instr :=
  (readCode src bs).map (decode six)

/-- The formats a step fetches, told apart by the number of bits (log entry 7): a 64-bit word is
a command word, a word of at most one byte is the content of SEQ. -/
def tableSource (nbits : Nat) : Option Source :=
  if nbits = 64 then some .cmd64
  else if nbits = 8 ∨ nbits = 4 then some .seq4
  else none

/-- The low `n` bytes of a number, the least significant first. -/
def natBytes : Nat → Nat → List Byte
  | 0, _ => []
  | n + 1, w => BitVec.ofNat 8 w :: natBytes n (w / 256)

/-- The bytes in which a format's code is laid out for the decoder. -/
def tableBytes (nbits w : Nat) : List Byte :=
  natBytes ((nbits + 7) / 8) w

/-- The instruction the decoder reads from an instruction whose bits are `w`, numbered as the
opcode table numbers them (log entry 7). -/
def decodeTableWord (nbits w : Nat) : Option Instr :=
  match tableSource nbits with
  | none => none
  | some src =>
    match decodeBytes src false (tableBytes nbits w) with
    | .ok i => some i
    | .error _ => none

/-- The encoder: the code of a well-formed instruction and the place it is read from, written
from the same tables (R91, R96, R97, R98, R100, R104, R24). -/
def encode : Instr → Encoded
  | .construct f w h => .cmd (0#16 ++ h ++ w ++ 0#10 ++ f ++ 1#4)
  | .validate => .cmd 2#64
  | .decode p => .cmd (0#56 ++ p ++ 3#6)
  | .illegalOp0 rest => .cmd (rest ++ 0#3)
  | .illegalOp4to7 rest low => .cmd (rest ++ 1#1 ++ low)
  | .illegalOther w => .cmd w
  | .block c r0 r1 ix => .blk c (ix ++ r1 ++ r0)
  | .i0 c lane => .idx c lane 0#3
  | .i1 c lane => .idx c lane 1#3
  | .i2Six c lane => .idx c lane 2#3
  | .i3Six c lane => .idx c lane 3#3
  | .i4Six c lane => .idx c lane 4#3
  | .i5Six c lane => .idx c lane 5#3
  | .i6Six c lane => .idx c lane 6#3
  | .i7Six c lane => .idx c lane 7#3
  | .i2Four c lane => .idx c lane 2#3
  | .i3Four c lane => .idx c lane 3#3
  | .i4Four c lane => .idx c lane 4#3
  | .i5Four c lane => .idx c lane 5#3
  | .i6Four c lane => .idx c lane 6#3
  | .i7Four c lane => .idx c lane 7#3
  | .fmtNone => .fmt 0#2
  | .fmtBc4 => .fmt 1#2
  | .fmtBc5 => .fmt 2#2
  | .fmtBoth => .fmt 3#2
  | .passVoid => .pass 0#2
  | .passNormal => .pass 1#2
  | .passExt => .pass 2#2
  | .passReserved => .pass 3#2
  | .idle => .seq seqIdle
  | .check => .seq seqCheck
  | .beginDecode => .seq seqBegin
  | .rdblkR => .seq seqRdblkR
  | .rdblkG => .seq seqRdblkG
  | .interpR => .seq seqInterpR
  | .interpG => .seq seqInterpG
  | .zfill => .seq seqZfill
  | .texxy => .seq seqTexxy
  | .comp => .seq seqComp
  | .wrpix => .seq seqWrpix
  | .nextTile => .seq seqNext
  | .finish => .seq seqFinish
  | .seqReserved13 => .seq 13#4
  | .seqReserved14 => .seq 14#4
  | .seqReserved15 => .seq 15#4

end Sys2Proof
end

