-- ==== Sys2Proof/Config.lean ====
section
/-!
DEFINITION. What an instance of the hardware fixes and the spec leaves open
(spec/00_scope.md R7; spec/92_eei_decisions.md, "Open parameters in one place").
-/

namespace Sys2Proof

/-- `EXT_PASS`, the platform-supplied pass function (spec/42_channel_compositor.md R166,
spec/93_implementation_defined.md U10): a free value, so it has no body and every claim holds for
every such function. Its type carries the platform's range obligation, as R166 asks of a model
that takes it. R166 puts that obligation only on arguments in [0.0, 1.0]; that the type asks it of
all arguments is the model's choice (DESIGN CHOICE, log entry 18). Whether an instance has one is the bit `hasExtPass` of the state's environment
(log entry 18). -/
opaque Config.extPass : F32 → F32 → UnitF32 × UnitF32 × UnitF32

/-- The value of `a div 0`: R8 defines the quotient for a positive divisor only, and TPR is 0 in
no state a run reaches (R190). A free value (log entry 23). -/
opaque Config.divByZero : Nat → Nat

/-- The value of `a mod 0`; as for `Config.divByZero` (log entry 23). -/
opaque Config.modByZero : Nat → Nat

/-- What a `w`-bit register holds when a result does not fit it, which R264 says never happens.
A free value (log entry 25). -/
opaque Config.overflow : (w : Nat) → Nat → BitVec w

end Sys2Proof
end

