-- ==== Sys2Proof/Machine/State.lean ====
section
/-!
DEFINITION. The state of the machine, the reasons a step can stop, and the state after reset
(spec/10_state.md R20 to R38; spec/93_implementation_defined.md U2 to U11).
-/

namespace Sys2Proof.Machine

/-- The colour-buffer memory CB (spec/10_state.md R34, spec/20_memory.md R62): (address, byte)
pairs in strictly rising address order. An address that is not listed holds no value: reset and
every rule but WRPIX leave it unwritten (log entry 3). -/
abbrev Memory := List Host.Cell

/-- What the host may do, one move at a time, while SEQ = IDLE (spec/70_reset_and_hazards.md
R318), and the environment's replacement of the stream between commands (R319). -/
inductive HostMove where
  /-- `CsrWrite(n, w)` (R33, R230) -/
  | csrWrite (n : BitVec 3) (w : Word64)
  /-- `CsrRead(n)` (R33) -/
  | csrRead (n : BitVec 3)
  /-- `CBRead(a, n)` (R214) -/
  | cbRead (a n : Nat)
  /-- the environment replaces S (R319) -/
  | setStream (bytes : List Byte)
deriving DecidableEq, Repr

/-- What a host read returns: a control-register value, the bytes of a permitted buffer read, or
nothing for a refused one (R33, R214). -/
inductive Reply where
  | csr (v : Word64)
  | cb (bytes : List Byte)
  | noData
deriving DecidableEq, Repr

/-- Everything outside the hardware that a step reads: arguments of the model by
spec/10_state.md R36, fields here because a step has only the state (log entry 1). -/
structure Env where
  /-- the stream S; its length is S_LEN (R60, R61) -/
  stream : List Byte
  /-- HAS_EXT_PASS (spec/00_scope.md R7; log entry 18) -/
  hasExtPass : Bool
  /-- the host's pending moves, the next one first -/
  moves : List HostMove
  /-- what host reads have returned, the oldest first -/
  replies : List Reply
  /-- the level of the reset input at each coming step; deasserted beyond the list (R310, R311) -/
  resetIn : List Bool
deriving DecidableEq, Repr

/-- The complete state of the hardware (spec/10_state.md R20), the PASS_SEL operand that CHECK
has from the command word (R197; log entry 4), and the environment (log entry 1). -/
structure State where
  /-- FMT = {isBC5, isBC4} (R21) -/
  fmt : BitVec 2
  /-- WIDTH (R21) -/
  width : BitVec 16
  /-- HEIGHT (R21) -/
  height : BitVec 16
  /-- PASS (R22) -/
  pass : BitVec 2
  /-- BUF_VALID (R23) -/
  bufValid : Bool
  /-- ERR (R23, R281) -/
  err : BitVec 3
  /-- SEQ (R24) -/
  seq : BitVec 4
  /-- CUR (R25) -/
  cur : BitVec 32
  /-- TILE (R26) -/
  tile : BitVec 28
  /-- TEX (R26) -/
  tex : BitVec 4
  /-- PIXCNT (R27) -/
  pixcnt : BitVec 32
  /-- BLK[0], the red block (R28) -/
  blkR : Block
  /-- BLK[1], the green block (R28) -/
  blkG : Block
  /-- CH[0][0..15] (R29) -/
  chR : Vector F32 16
  /-- CH[1][0..15] (R29) -/
  chG : Vector F32 16
  /-- PX (R30) -/
  px : BitVec 16
  /-- PY (R30) -/
  py : BitVec 16
  /-- PIX (R30) -/
  pix : Pixel
  /-- CB (R34) -/
  cb : Memory
  /-- PASS_SEL of the DECODE command in progress (R197) -/
  passSel : BitVec 2
  /-- the environment; not the hardware's -/
  env : Env
deriving DecidableEq, Repr

/-- The typed failures of the hardware (spec/60_exceptions.md R281). A failure is no fault of the
model: the machine takes it, with a next state (R286). -/
inductive Failure where
  | unsupportedFormat
  | streamUnderrun
  | malformedGeometry
  | unsupportedPass
  | illegalCommand
deriving DecidableEq, Repr

/-- Why the machine stops with a fault. Every one is safe: the model stops where the spec gives
no next state, so no claim about a next state can rest on it. -/
inductive Fault where
  /-- Raised by SEQ_RESERVED_13, 14 and 15: "no transition enters or leaves them"
  (spec/93_implementation_defined.md U11). Safe. -/
  | seqReserved (code : BitVec 4)
  /-- Raised by WRPIX when (PX, PY) is outside the image: "Outside its domain it is never
  evaluated", and CB has no entry there (spec/44_pixel_write_buffer.md R211). Safe. -/
  | pixelOutsideImage
  /-- Raised by a permitted CBRead that meets a byte nothing has written; R208 rules it out in
  every state a run reaches. Safe. -/
  | cbUnwritten
deriving DecidableEq, Repr

/-- Why a step is refused. Every one is safe, as for `Fault`. -/
inductive Refusal where
  /-- Raised by `exec` for an instruction that has no meaning yet. Safe. -/
  | notModelled (mnemonic : String)
  /-- Raised by every command word while SEQ ≠ IDLE: "the host has no move while the sequencer
  runs" (spec/93_implementation_defined.md U4). Safe. -/
  | hostWhileBusy
  /-- Raised by an index-code row in the other regime than its own, where the row does not apply
  (spec/30_encoding.md R96). Safe. -/
  | otherRegime
  /-- Raised by COMP when PASS names no pass this instance has, which "never reaches COMP"
  (spec/42_channel_compositor.md R162). Safe. -/
  | noPassFunction
  /-- Raised by COMP and the pass codes when a pass result lies outside [0.0, 1.0], for which
  "quant has no meaning" (spec/93_implementation_defined.md U10); only a channel register that
  holds no value of [0.0, 1.0] leads there, which R29 rules out. Safe. -/
  | passResultOutOfRange
deriving DecidableEq, Repr

/-- A block register after reset (log entry 2). -/
def blockZero : Block := ⟨0#8, 0#8, 0#48⟩

/-- An environment with nothing placed in it: no stream, no external pass (the spec's value for
this hardware, R7), no pending move, no reply, reset not asserted. -/
def Env.empty : Env := ⟨[], false, [], [], []⟩

/-- The machine right after reset (spec/10_state.md R37; log entries 2, 3 and 4 for what R37
leaves unspecified), in the environment `e`, which reset leaves unaffected (R310). -/
def State.resetIn (e : Env) : State where
  fmt := 0#2
  width := 0#16
  height := 0#16
  pass := 0#2
  bufValid := false
  err := 0#3
  seq := 0#4
  cur := 0#32
  tile := 0#28
  tex := 0#4
  pixcnt := 0#32
  blkR := blockZero
  blkG := blockZero
  chR := Vector.replicate 16 0#32
  chG := Vector.replicate 16 0#32
  px := 0#16
  py := 0#16
  pix := ⟨0#8, 0#8, 0#8⟩
  cb := []
  passSel := 0#2
  env := e

/-- The machine right after reset, with nothing placed in its environment. -/
def State.reset : State := State.resetIn Env.empty

end Sys2Proof.Machine
end

