-- ==== Sys2Proof/Machine/Operands.lean ====
section
/-!
DEFINITION. The operands of the micro-operations: the geometry of a decode, coordinates and
addresses, the fields of a block, the read of a block from the stream. All integer arithmetic is
exact, on unbounded naturals (spec/46_numeric_primitives.md R264).
-/

namespace Sys2Proof.Machine

/-- `TPR = WIDTH div 4`, tiles per row (spec/43_tile_scanner.md R190). -/
def tilesPerRow (w : BitVec 16) : Nat := w.toNat / 4

/-- `NT = TPR · TPC`, tiles in the image (R190). -/
def tileCount (w h : BitVec 16) : Nat := (w.toNat / 4) * (h.toNat / 4)

/-- `bpt`: 2 blocks per tile in BC5, otherwise 1 (R190, R205). -/
def blocksPerTile (fmt : BitVec 2) : Nat := if fmt = 2#2 then 2 else 1

/-- `a div b` (R8), free for `b = 0` (log entry 23). -/
def divNat (a b : Nat) : Nat := if b = 0 then Config.divByZero a else a / b

/-- `a mod b` (R8), free for `b = 0` (log entry 23). -/
def modNat (a b : Nat) : Nat := if b = 0 then Config.modByZero a else a % b

/-- An exact natural number in a `w`-bit register (R264), free where it does not fit
(log entry 25). -/
def fit (w n : Nat) : BitVec w := if n < 2 ^ w then BitVec.ofNat w n else Config.overflow w n

/-- `TX(t)`, the column of a tile's origin (R191). -/
def tileX (tpr t : Nat) : Nat := 4 * modNat t tpr

/-- `TY(t)`, the row of a tile's origin (R191). -/
def tileY (tpr t : Nat) : Nat := 4 * divNat t tpr

/-- `dx(i)` of a texel (R192). -/
def texelX (i : Nat) : Nat := i % 4

/-- `dy(i)` of a texel (R192). -/
def texelY (i : Nat) : Nat := i / 4

/-- BLKTILE (R193): the tile and the channel (0 red, 1 green) of block `k`. -/
def blockTile (bpt k : Nat) : Nat × Nat := (k / bpt, k % bpt)

/-- `entry(x, y)` (spec/44_pixel_write_buffer.md R211). -/
def pixEntry (w x y : Nat) : Nat := y * w + x

/-- PIXADDR (R211): the byte address of a pixel's red byte. -/
def pixAddr (w x y : Nat) : Nat := 3 * pixEntry w x y

/-- The number of bytes of CB in use, `3·WIDTH·HEIGHT` (spec/10_state.md R34). -/
def bufferSize (w h : BitVec 16) : Nat := 3 * w.toNat * h.toNat

/-- `idx(IDX, i)` (spec/40_block_reader.md R122): the index code of texel `i`. -/
def idxCode (idx : BitVec 48) (i : Nat) : BitVec 3 := (idx >>> (3 * i)).extractLsb' 0 3

/-- `MemRead(S, a, n)` (spec/20_memory.md R61): defined when `a + n ≤ S_LEN`. -/
def streamRead (stream : List Byte) (a n : Nat) : Option (List Byte) :=
  if a + n ≤ stream.length then some ((stream.drop a).take n) else none

/-- The fields of a block word (spec/30_encoding.md R91). -/
def blockOf (w : Word64) : Block :=
  ⟨w.extractLsb' 0 8, w.extractLsb' 8 8, w.extractLsb' 16 48⟩

/-- The block at stream offset `a`, if 8 bytes remain there (spec/40_block_reader.md R121, R123). -/
def blockAt (stream : List Byte) (a : Nat) : Option Block :=
  (streamRead stream a 8).map fun bs => blockOf (BitVec.ofNat 64 (leNat bs))

/-- BLK[c] (spec/10_state.md R28). -/
def State.blk (s : State) : Chan → Block
  | .red => s.blkR
  | .green => s.blkG

/-- CH[c] (spec/10_state.md R29). -/
def State.ch (s : State) : Chan → Vector F32 16
  | .red => s.chR
  | .green => s.chG

/-- CH[c][i]. -/
def State.lane (s : State) (c : Chan) (i : BitVec 4) : F32 := (s.ch c)[i.toNat]'i.isLt

end Sys2Proof.Machine
end

