-- ==== Sys2Proof/Machine/Flags.lean ====
section
/-!
DEFINITION. The flags and predicates: the regime of a block, BUSY, the failure codes, the static
checks, the legality of a command word, and the control registers, which are views of the state
(spec/10_state.md R23, R31 to R33; spec/45_host_commands.md R231, R236; spec/60_exceptions.md R281).
-/

namespace Sys2Proof.Machine

/-- `REF0 > REF1` as unsigned integers: the 6-step regime (R31, R140). -/
def sixStep (ref0 ref1 : Byte) : Bool := decide (ref1.toNat < ref0.toNat)

/-- `six(c)`: the regime of the block in BLK[c], recomputed whenever it is needed (R31). -/
def State.six (s : State) (c : Chan) : Bool := sixStep (s.blk c).ref0 (s.blk c).ref1

/-- BUSY = (SEQ ≠ IDLE) (R23). -/
def State.busy (s : State) : Bool := s.seq != seqIdle

/-- The failure codes (R281). -/
def failureCode : Failure → BitVec 3
  | .unsupportedFormat => 1#3
  | .streamUnderrun => 2#3
  | .malformedGeometry => 3#3
  | .unsupportedPass => 4#3
  | .illegalCommand => 5#3

/-- `Check(f, w, h)` (R231): the format is tested first; `none` is code 0. -/
def checkConfig (f : BitVec 2) (w h : BitVec 16) : Option Failure :=
  if f ≠ 1#2 ∧ f ≠ 2#2 then some .unsupportedFormat
  else if w.toNat = 0 ∨ h.toNat = 0 ∨ w.toNat % 4 ≠ 0 ∨ h.toNat % 4 ≠ 0 then
    some .malformedGeometry
  else none

/-- A pass code that has a pass behind it (R104, R197): 3 never, 2 only with `EXT_PASS`. -/
def passAvailable (p : BitVec 2) (hasExt : Bool) : Bool :=
  !(p == 3#2 || (p == 2#2 && !hasExt))

/-- `Legal(w)` (R236), bit by bit as the rule writes it. -/
def legal (w : Word64) : Bool :=
  let op := w.extractLsb' 0 3
  w.getLsbD 3 == false && w.extractLsb' 8 8 == 0#8 && w.extractLsb' 48 16 == 0#16
    && (op == 1#3 || op == 2#3 || op == 3#3)
    && (!(op == 1#3) || w.extractLsb' 6 2 == 0#2)
    && (!(op == 2#3 || op == 3#3) || (w.extractLsb' 4 2 == 0#2 && w.extractLsb' 16 32 == 0#32))
    && (!(op == 2#3) || w.extractLsb' 6 2 == 0#2)

/-- One bit of a flag. -/
def flagBit (b : Bool) : BitVec 1 := if b then 1#1 else 0#1

/-- Control register 1, STATUS: ERR in 4:2, BUF_VALID in 1, BUSY in 0 (R32). -/
def State.statusWord (s : State) : Word64 :=
  0#59 ++ s.err ++ flagBit s.bufValid ++ flagBit s.busy

/-- Control register 2, CONFIG: HEIGHT in 47:32, WIDTH in 31:16, PASS in 7:6, FMT in 5:4 (R32). -/
def State.configWord (s : State) : Word64 :=
  0#16 ++ s.height ++ s.width ++ 0#8 ++ s.pass ++ s.fmt ++ 0#4

/-- `CsrRead(n)` (R32, R33): CMD and the reserved registers read as 0. -/
def State.csrRead (s : State) (n : BitVec 3) : Word64 :=
  match n.toNat with
  | 1 => s.statusWord
  | 2 => s.configWord
  | 3 => s.cur.setWidth 64
  | 4 => s.tile.setWidth 64
  | 5 => s.pixcnt.setWidth 64
  | _ => 0#64

end Sys2Proof.Machine
end

