-- ==== Sys2Proof/Machine/Ops.lean ====
section
/-!
DEFINITION. The named operations over memory, registers and sequencing that the meanings share:
the colour-buffer memory, register writes, taking a failure (spec/60_exceptions.md R286), the
sequencer's successors (spec/43_tile_scanner.md R196) and the acceptance of a command.
There is no return from a failure: R289 gives the hardware none.
-/

namespace Sys2Proof.Machine

/-- The canonical form of the memory: addresses strictly rising. Since an address that is not
listed has no value, no listed byte can equal what an unlisted one reads as. -/
def Memory.wf : Memory → Bool
  | [] => true
  | [_] => true
  | (a, _) :: (a', b') :: m => decide (a < a') && Memory.wf ((a', b') :: m)

/-- One byte of CB; `none` where nothing has been written (log entry 3). -/
def Memory.read : Memory → Nat → Option Byte
  | [], _ => none
  | (k, b) :: m, a => if k = a then some b else Memory.read m a

/-- Store one byte, keeping the addresses strictly rising. -/
def Memory.write : Memory → Nat → Byte → Memory
  | [], a, b => [(a, b)]
  | (k, c) :: m, a, b =>
    if a < k then (a, b) :: (k, c) :: m
    else if a = k then (a, b) :: m
    else (k, c) :: Memory.write m a b

/-- `MemWrite(CB, a, n, v)`: the bytes of `v` at `a`, `a + 1`, … (spec/00_scope.md R9). -/
def Memory.writeMany : Memory → Nat → List Byte → Memory
  | m, _, [] => m
  | m, a, b :: bs => Memory.writeMany (Memory.write m a b) (a + 1) bs

/-- `MemRead(CB, a, n)`: the bytes at `a`, `a + 1`, …, or `none` if one has no value (R9). -/
def Memory.readMany : Memory → Nat → Nat → Option (List Byte)
  | _, _, 0 => some []
  | m, a, n + 1 =>
    match Memory.read m a, Memory.readMany m (a + 1) n with
    | some b, some bs => some (b :: bs)
    | _, _ => none

/-- The three bytes of an entry in their order (spec/30_encoding.md R102). -/
def pixelBytes (p : Pixel) : List Byte := [p.r, p.g, p.b]

/-- `SEQ <- code`. -/
def State.setSeq (s : State) (code : BitVec 4) : State := { s with seq := code }

/-- The failure entry `raise F` (R286): ERR gets the code, SEQ goes to IDLE, nothing else is
written. -/
def State.raise (s : State) (f : Failure) : State :=
  { s with err := failureCode f, seq := seqIdle }

/-- `BLK[c] <- b`. -/
def State.setBlk (s : State) (c : Chan) (b : Block) : State :=
  match c with
  | .red => { s with blkR := b }
  | .green => { s with blkG := b }

/-- `CH[c][0..15] <- v`. -/
def State.setCh (s : State) (c : Chan) (v : Vector F32 16) : State :=
  match c with
  | .red => { s with chR := v }
  | .green => { s with chG := v }

/-- `CH[c][i] <- v`. -/
def State.setLane (s : State) (c : Chan) (i : BitVec 4) (v : F32) : State :=
  s.setCh c ((s.ch c).set i.toNat v i.isLt)

/-- `PIX <- p`. -/
def State.setPix (s : State) (p : Pixel) : State := { s with pix := p }

/-- The writes of CONSTRUCT before its check (spec/45_host_commands.md R232). -/
def State.latchConfig (s : State) (f : BitVec 2) (w h : BitVec 16) : State :=
  { s with
    fmt := f, width := w, height := h, bufValid := false,
    cur := 0#32, tile := 0#28, pixcnt := 0#32 }

/-- The start of DECODE (R234): `SEQ <- CHECK`, the operand that CHECK reads, and ERR = 0, the code
of a command that is still running (spec/10_state.md R23; log entries 4 and 6). -/
def State.startDecode (s : State) (p : BitVec 2) : State :=
  { s with err := 0#3, seq := seqCheck, passSel := p }

/-- The end of CONSTRUCT and VALIDATE: raise what `Check` finds, otherwise `ERR <- 0`
(R232, R233). -/
def State.checkAndReport (s : State) : State :=
  match checkConfig s.fmt s.width s.height with
  | some f => s.raise f
  | none => { s with err := 0#3 }

/-- The successor of RDBLK_R (R196): RDBLK_G in BC5, otherwise INTERP_R (R205; log entry 22). -/
def afterRdblkR (fmt : BitVec 2) : BitVec 4 := if fmt = 2#2 then seqRdblkG else seqInterpR

/-- The successor of INTERP_R (R196): INTERP_G in BC5, otherwise ZFILL (R205; log entry 22). -/
def afterInterpR (fmt : BitVec 2) : BitVec 4 := if fmt = 2#2 then seqInterpG else seqZfill

/-- The successor of a block read into BLK[c] (R196). -/
def afterBlock (c : Chan) (fmt : BitVec 2) : BitVec 4 :=
  match c with
  | .red => afterRdblkR fmt
  | .green => seqInterpR

/-- The successor of INTERP c (R196). -/
def afterInterp (c : Chan) (fmt : BitVec 2) : BitVec 4 :=
  match c with
  | .red => afterInterpR fmt
  | .green => seqTexxy

/-- A command word is accepted only when SEQ = IDLE (R230; log entry 14). -/
def acceptCommand (s : State) (t : State) : Host.Outcome State Fault Refusal :=
  if s.seq = seqIdle then .next t else .refused .hostWhileBusy

end Sys2Proof.Machine
end

