-- ==== Sys2Proof/Machine/BlockReader.lean ====
section
/-!
DEFINITION. Unit 1, the block reader: the compressed block and the micro-operations RDBLK_R and
RDBLK_G (spec/40_block_reader.md R120 to R126).
-/

namespace Sys2Proof.Machine

/-- The writes of a successful RDBLK c (R121): BLK[c], CUR + 8, SEQ. -/
def State.loadBlock (s : State) (c : Chan) (b : Block) : State :=
  { s.setBlk c b with cur := fit 32 (s.cur.toNat + 8), seq := afterBlock c s.fmt }

/-- RDBLK c (R121): StreamUnderrun before any byte is read if fewer than 8 remain (R123). -/
def readBlock (c : Chan) (s : State) : Host.Outcome State Fault Refusal :=
  match blockAt s.env.stream s.cur.toNat with
  | none => .next (s.raise .streamUnderrun)
  | some b => .next (s.loadBlock c b)

/-- BLOCK (R91, R121): what RDBLK c does with a block it has read; every word is legal (R93). -/
def execBlock (c : Chan) (ref0 ref1 : Byte) (idx : BitVec 48) (s : State) :
    Host.Outcome State Fault Refusal :=
  .next (s.loadBlock c ⟨ref0, ref1, idx⟩)

/-- RDBLK_R (R121, R124). -/
def execRdblkR (s : State) : Host.Outcome State Fault Refusal := readBlock .red s

/-- RDBLK_G (R121, R124). -/
def execRdblkG (s : State) : Host.Outcome State Fault Refusal := readBlock .green s

end Sys2Proof.Machine
end

