-- ==== Sys2Proof/Machine/Commands.lean ====
section
/-!
DEFINITION. The rows of format CMD64: the host commands and the illegal command words
(spec/45_host_commands.md R230 to R238). Every command writes ERR (R23), through `checkAndReport`,
the failure entry or `startDecode`.
-/

namespace Sys2Proof.Machine

/-- CONSTRUCT (R232): latch, drop the buffer, clear the progress counters, then the check. -/
def execConstruct (fmt : BitVec 2) (w h : BitVec 16) (s : State) :
    Host.Outcome State Fault Refusal :=
  acceptCommand s (s.latchConfig fmt w h).checkAndReport

/-- VALIDATE (R233): the check of the latched configuration, and nothing else. -/
def execValidate (s : State) : Host.Outcome State Fault Refusal :=
  acceptCommand s s.checkAndReport

/-- DECODE (R234): `SEQ <- CHECK`, with the PASS_SEL operand that CHECK reads (R197), and ERR = 0
while it runs (R23). The micro-operations that follow are the steps the sequencer then takes (log
entries 4, 5, 6). -/
def execDecode (passSel : BitVec 2) (s : State) : Host.Outcome State Fault Refusal :=
  acceptCommand s (s.startDecode passSel)

/-- A word with OP = 0 (R235): IllegalCommand, nothing else changes. -/
def execIllegalOp0 (_rest : BitVec 61) (s : State) : Host.Outcome State Fault Refusal :=
  acceptCommand s (s.raise .illegalCommand)

/-- A word with OP = 4..7 (R235). -/
def execIllegalOp4to7 (_rest : BitVec 61) (_low : BitVec 2) (s : State) :
    Host.Outcome State Fault Refusal :=
  acceptCommand s (s.raise .illegalCommand)

/-- A word with OP = 1..3 that is not legal (R235). -/
def execIllegalOther (_w : Word64) (s : State) : Host.Outcome State Fault Refusal :=
  acceptCommand s (s.raise .illegalCommand)

end Sys2Proof.Machine
end

