-- ==== Sys2Proof/Machine/Float.lean ====
section
/-!
DEFINITION. The numeric primitives (spec/46_numeric_primitives.md R250 to R262): binary32 with one
rounding to nearest, ties to even, per written operation. Each primitive computes the exact
rational value of its operands' result and rounds it once (R251).
-/

namespace Sys2Proof.Machine

/-- The exponent field, bits 30:23 (R250). -/
def expField (v : F32) : Nat := (v.extractLsb' 23 8).toNat

/-- The fraction field, bits 22:0 (R250). -/
def fracField (v : F32) : Nat := (v.extractLsb' 0 23).toNat

/-- The sign bit, bit 31 (R250). -/
def signBit (v : F32) : Bool := v.getLsbD 31

/-- The integer significand: with the hidden bit for a normal value, without it for a zero or a
subnormal one (R250). -/
def significand (v : F32) : Nat :=
  if expField v = 0 then fracField v else 2 ^ 23 + fracField v

/-- The exponent field that scales the significand; a subnormal value scales as field 1. -/
def scaleField (v : F32) : Nat := max (expField v) 1

/-- The exact magnitude of a value: significand · 2^(field − 150) (R250; log entry 21 for
exponent field 255, which no rule reaches). -/
def magnitude (v : F32) : Nat × Nat :=
  if 150 ≤ scaleField v then (significand v * 2 ^ (scaleField v - 150), 1)
  else (significand v, 2 ^ (150 - scaleField v))

/-- The exact value of a `FLOAT` (R250). -/
def valueOf (v : F32) : Ratio :=
  if signBit v then ⟨-((magnitude v).1 : Int), (magnitude v).2⟩
  else ⟨((magnitude v).1 : Int), (magnitude v).2⟩

/-- `floor(log2 (n / d))` for positive `n` and `d` (R251). -/
def floorLog2 (n d : Nat) : Int :=
  let e : Int := (n.log2 : Int) - (d.log2 : Int)
  let below : Bool :=
    if 0 ≤ e then decide (n < d * 2 ^ e.toNat) else decide (n * 2 ^ (-e).toNat < d)
  if below then e - 1 else e

/-- `rne (n / d)`: the integer nearest to `n / d`, ties to the even integer (R251). -/
def roundNearestEven (n d : Nat) : Nat :=
  let q := n / d
  let r := n % d
  if 2 * r < d then q
  else if d < 2 * r then q + 1
  else if q % 2 = 0 then q else q + 1

/-- `n / d` divided by `2^k`, as a fraction. -/
def scaleDown (n d : Nat) (k : Int) : Nat × Nat :=
  if 0 ≤ k then (n, d * 2 ^ k.toNat) else (n * 2 ^ (-k).toNat, d)

/-- The pattern of a magnitude given as exponent `e` and significand `m` in units of
`2^(e − 23)`, `m ≤ 2^24`: a significand that has reached `2^24` carries into the exponent field,
and one below `2^23` (only at `e = −126`) is subnormal. Beyond the largest finite value, which no
rule reaches, it is the pattern of infinity (log entry 21). -/
def packMagnitude (e : Int) (m : Nat) : Nat :=
  min ((e + 126).toNat * 2 ^ 23 + m) 0x7F800000

/-- The exponent in whose units a magnitude is rounded; the smallest is that of the smallest
normal value (log entry 21). -/
def roundExponent (e : Int) : Int := max e (-126)

/-- `rnd32` of the magnitude `n / d`, `n` and `d` positive: `u · rne(q / u)` with
`u = 2^(floor(log2 q) − 23)`, as a pattern without a sign (R251). -/
def roundMagnitude (n d : Nat) : Nat :=
  let e := roundExponent (floorLog2 n d)
  let s := scaleDown n d (e - 23)
  packMagnitude e (roundNearestEven s.1 s.2)

/-- A sign and the pattern of a magnitude as a `FLOAT`. -/
def packSign (neg : Bool) (m : Nat) : F32 :=
  BitVec.ofNat 32 ((if neg then 2 ^ 31 else 0) + m)

/-- `rnd32(q)` (R251): `rnd32(0) = +0.0` and `rnd32(−q) = −rnd32(q)`. -/
def rnd32 (q : Ratio) : F32 :=
  if q.num = 0 then 0#32
  else packSign (decide (q.num < 0)) (roundMagnitude q.num.natAbs q.den)

/-- The exact product. -/
def ratioMul (a b : Ratio) : Ratio := ⟨a.num * b.num, a.den * b.den⟩

/-- The exact sum. -/
def ratioAdd (a b : Ratio) : Ratio := ⟨a.num * b.den + b.num * a.den, a.den * b.den⟩

/-- The exact difference. -/
def ratioSub (a b : Ratio) : Ratio := ⟨a.num * b.den - b.num * a.den, a.den * b.den⟩

/-- The exact quotient; the divisor is never zero (R255). -/
def ratioDiv (a b : Ratio) : Ratio := ⟨a.num * b.den * b.num.sign, a.den * b.num.natAbs⟩

/-- `fmul` (R256). -/
def fmul (a b : F32) : F32 := rnd32 (ratioMul (valueOf a) (valueOf b))

/-- `fadd` (R257). -/
def fadd (a b : F32) : F32 := rnd32 (ratioAdd (valueOf a) (valueOf b))

/-- `fsub` (R258); an exact zero is +0.0. -/
def fsub (a b : F32) : F32 := rnd32 (ratioSub (valueOf a) (valueOf b))

/-- `fdiv` (R255): a true division, rounded once. -/
def fdiv (a b : F32) : F32 := rnd32 (ratioDiv (valueOf a) (valueOf b))

/-- The bits of an integer square root, from bit `k − 1` down. -/
def isqrtFrom : Nat → Nat → Nat → Nat
  | 0, r, _ => r
  | k + 1, r, x =>
    if (r + 2 ^ k) * (r + 2 ^ k) ≤ x then isqrtFrom k (r + 2 ^ k) x else isqrtFrom k r x

/-- The integer square root of `x < 4^26`. -/
def isqrt (x : Nat) : Nat := isqrtFrom 26 0 x

/-- The integer nearest to the real square root of `n / d`, ties to the even integer. -/
def roundSqrt (n d : Nat) : Nat :=
  let r := isqrt (n / d)
  let low := d * (4 * r * r + 4 * r + 1)
  if 4 * n < low then r
  else if low < 4 * n then r + 1
  else if r % 2 = 0 then r else r + 1

/-- `rnd32` of the square root of the magnitude `n / d`, `n` and `d` positive: the exponent of
the root is half that of the operand, rounded down. -/
def sqrtMagnitude (n d : Nat) : Nat :=
  let e := roundExponent (floorLog2 n d / 2)
  let s := scaleDown n d (2 * (e - 23))
  packMagnitude e (roundSqrt s.1 s.2)

/-- `fsqrt` (R259): the exact real square root of a value not below zero, rounded once;
`fsqrt(+0.0) = +0.0`. -/
def fsqrt (a : F32) : F32 :=
  if (valueOf a).num ≤ 0 then 0#32
  else BitVec.ofNat 32 (sqrtMagnitude (valueOf a).num.natAbs (valueOf a).den)

/-- `fmax0` (R260): `a` if `a > 0.0`, otherwise +0.0. -/
def fmax0 (a : F32) : F32 := if 0 < (valueOf a).num then a else 0#32

/-- The constants of the datapath (R252). -/
def f0 : F32 := 0x00000000#32
/-- 1.0 (R252). -/
def f1 : F32 := 0x3F800000#32
/-- 2.0 (R252). -/
def f2 : F32 := 0x40000000#32
/-- 5.0 (R252). -/
def f5 : F32 := 0x40A00000#32
/-- 7.0 (R252). -/
def f7 : F32 := 0x40E00000#32
/-- 255.0 (R252). -/
def f255 : F32 := 0x437F0000#32

/-- `clamp01` (R261). -/
def clamp01 (a : F32) : F32 :=
  if (valueOf a).num < 0 then f0
  else if ((valueOf a).den : Int) < (valueOf a).num then f1
  else a

/-- `u8_to_f` (R253): exact, never sign-extended. -/
def u8ToF (x : Byte) : F32 := rnd32 ⟨(x.toNat : Int), 1⟩

/-- `int_to_f` (R254): exact for the small integers it is applied to. -/
def intToF (k : Nat) : F32 := rnd32 ⟨(k : Int), 1⟩

/-- The value lies in [0.0, 1.0]: the domain of `quant` (R262), as a pattern +0.0 to 1.0, or
the other zero. -/
def inUnit (v : F32) : Bool := decide (v.toNat ≤ 0x3F800000) || v == 0x80000000#32

/-- The pattern of a value of [0.0, 1.0]. -/
def unitPattern (u : UnitF32) : F32 := BitVec.ofNat 32 u.val

/-- The largest integer not above a value that is not below zero. -/
def floorNat (q : Ratio) : Nat := q.num.toNat / q.den

/-- `quant` (R262): floor of the value times 255.0, the product rounded once; its domain is
`inUnit`. -/
def quant (v : F32) : Byte := BitVec.ofNat 8 (floorNat (valueOf (fmul v f255)))

end Sys2Proof.Machine
end

