-- ==== Sys2Proof/Machine/Compositor.lean ====
section
/-!
DEFINITION. Unit 3, the channel compositor: ZFILL, the pass functions, the pass-code rows and
COMP (spec/42_channel_compositor.md R160 to R173).
-/

namespace Sys2Proof.Machine

/-- VOID (R163): the channel values unchanged, blue 0.0. -/
def voidPass (c0 c1 : F32) : F32 × F32 × F32 := (c0, c1, f0)

/-- The blue value of NORMAL: one rounded operation per primitive, in the order of R164. -/
def normalBlue (c0 c1 : F32) : F32 :=
  let nx := fsub (fmul f2 c0) f1
  let ny := fsub (fmul f2 c1) f1
  let xx := fmul nx nx
  let yy := fmul ny ny
  let t := fsub f1 xx
  let rad := fsub t yy
  let z := fsqrt (fmax0 rad)
  clamp01 (fdiv (fadd z f1) f2)

/-- NORMAL (R164): red and green unchanged, blue from the rebuilt Z component. -/
def normalPass (c0 c1 : F32) : F32 × F32 × F32 := (c0, c1, normalBlue c0 c1)

/-- EXT (R166): the external function's three results, with no correction. R166 leaves open what
they are for an argument outside [0.0, 1.0]; the model takes some values in range there (DESIGN
CHOICE, log entry 18). -/
def externalPass (c0 c1 : F32) : F32 × F32 × F32 :=
  (unitPattern (Config.extPass c0 c1).1, unitPattern (Config.extPass c0 c1).2.1,
    unitPattern (Config.extPass c0 c1).2.2)

/-- `pass_p(c0, c1)` (R162): none for the reserved code, and for EXT without `EXT_PASS`. -/
def passFunction (p : BitVec 2) (hasExt : Bool) (c0 c1 : F32) : Option (F32 × F32 × F32) :=
  match p.toNat with
  | 0 => some (voidPass c0 c1)
  | 1 => some (normalPass c0 c1)
  | 2 => if hasExt then some (externalPass c0 c1) else none
  | _ => none

/-- The quantised pixel of a pass result (R167), inside the domain of `quant` (R262): none when
a result lies outside [0.0, 1.0] (log entry 19). -/
def toPixel (t : F32 × F32 × F32) : Option Pixel :=
  if inUnit t.1 && inUnit t.2.1 && inUnit t.2.2 then
    some ⟨quant t.1, quant t.2.1, quant t.2.2⟩
  else none

/-- Channel 0 of the current texel, CH[0][TEX]. -/
def State.texelRed (s : State) : F32 := s.lane .red s.tex

/-- Channel 1 of the current texel, CH[1][TEX]. -/
def State.texelGreen (s : State) : F32 := s.lane .green s.tex

/-- `PIX <- quant` of a pass result, as COMP writes it (R171), then `k`. -/
def composeThen (t : F32 × F32 × F32) (k : State → State) (s : State) :
    Host.Outcome State Fault Refusal :=
  match toPixel t with
  | some p => .next (k (s.setPix p))
  | none => .refused .passResultOutOfRange

/-- ZFILL (R161): positive zero into all of CH[1]. -/
def execZfill (s : State) : Host.Outcome State Fault Refusal :=
  .next ((s.setCh .green (Vector.replicate 16 f0)).setSeq seqTexxy)

/-- COMP (R171): the pass that PASS selects, on the current texel; a PASS with no pass behind it
never reaches COMP (R162; log entry 20). On a lane outside [0.0, 1.0] VOID and NORMAL are refused
(log entry 19), and EXT answers a next state with a free pixel (DESIGN CHOICE, log entry 18). -/
def execComp (s : State) : Host.Outcome State Fault Refusal :=
  match passFunction s.pass s.env.hasExtPass s.texelRed s.texelGreen with
  | some t => composeThen t (fun u => u.setSeq seqWrpix) s
  | none => .refused .noPassFunction

/-- Pass code 0 (R163; log entry 12): the void pass on the current texel, into PIX. -/
def execPassVoid (s : State) : Host.Outcome State Fault Refusal :=
  composeThen (voidPass s.texelRed s.texelGreen) id s

/-- Pass code 1 (R164): the normal-map pass on the current texel, into PIX. -/
def execPassNormal (s : State) : Host.Outcome State Fault Refusal :=
  composeThen (normalPass s.texelRed s.texelGreen) id s

/-- Pass code 2 (R166): the external pass on the current texel, into PIX, as COMP does (log entries
12 and 18); without `EXT_PASS` the
code is refused with UnsupportedPass (R285). -/
def execPassExt (s : State) : Host.Outcome State Fault Refusal :=
  if s.env.hasExtPass then composeThen (externalPass s.texelRed s.texelGreen) id s
  else .next (s.raise .unsupportedPass)

/-- Pass code 3, reserved (R285): always UnsupportedPass. -/
def execPassReserved (s : State) : Host.Outcome State Fault Refusal :=
  .next (s.raise .unsupportedPass)

end Sys2Proof.Machine
end

