-- ==== Sys2Proof/Machine/Interpolator.lean ====
section
/-!
DEFINITION. Unit 2, the channel interpolator: the function `interp`, the index-code rows and the
micro-operations INTERP_R and INTERP_G (spec/41_channel_interpolator.md R140 to R153).
-/

namespace Sys2Proof.Machine

/-- `r = fdiv(u8_to_f(ref), 255.0)` (R140). -/
def normRef (ref : Byte) : F32 := fdiv (u8ToF ref) f255

/-- The value of index codes 0 and 1: a normalised reference, clamped (R141, R142). -/
def refValue (ref : Byte) : F32 := clamp01 (normRef ref)

/-- An interior value of a ladder of `n` steps with divisor `d`: five rounded operations in the
order written, none fused or re-associated, then the clamp (R143, R144). -/
def ladderValue (n : Nat) (d : F32) (ref0 ref1 : Byte) (code : Nat) : F32 :=
  let s := code - 1
  let m0 := fmul (normRef ref0) (intToF (n - s))
  let m1 := fmul (normRef ref1) (intToF s)
  clamp01 (fdiv (fadd m0 m1) d)

/-- Codes 2 to 7 of the 6-step regime (R143). -/
def sixValue (ref0 ref1 : Byte) (code : Nat) : F32 := ladderValue 7 f7 ref0 ref1 code

/-- Codes 2 to 5 of the 4-step regime (R144). -/
def fourValue (ref0 ref1 : Byte) (code : Nat) : F32 := ladderValue 5 f5 ref0 ref1 code

/-- `interp(ref0, ref1, code)`, total on u8 × u8 × u3 (R147). -/
def interp (ref0 ref1 : Byte) (code : BitVec 3) : F32 :=
  match code.toNat, sixStep ref0 ref1 with
  | 0, _ => refValue ref0
  | 1, _ => refValue ref1
  | k, true => sixValue ref0 ref1 k
  | 6, false => f0
  | 7, false => f1
  | k, false => fourValue ref0 ref1 k

/-- The sixteen lanes of INTERP: lane `i` uses index code `i` and nothing else of the index
field (R149). -/
def interpLanes (b : Block) : Vector F32 16 :=
  Vector.ofFn fun i => interp b.ref0 b.ref1 (idxCode b.idx i.val)

/-- INTERP c (R149). -/
def interpChannel (c : Chan) (s : State) : Host.Outcome State Fault Refusal :=
  .next ((s.setCh c (interpLanes (s.blk c))).setSeq (afterInterp c s.fmt))

/-- A row limited to one regime: its value into its lane in that regime; in the other the row
does not apply (R96; log entry 10). -/
def laneInRegime (six : Bool) (c : Chan) (lane : BitVec 4) (v : F32) (s : State) :
    Host.Outcome State Fault Refusal :=
  if s.six c = six then .next (s.setLane c lane v) else .refused .otherRegime

/-- Index code 0 (R141). -/
def execI0 (c : Chan) (lane : BitVec 4) (s : State) : Host.Outcome State Fault Refusal :=
  .next (s.setLane c lane (refValue (s.blk c).ref0))

/-- Index code 1 (R142). -/
def execI1 (c : Chan) (lane : BitVec 4) (s : State) : Host.Outcome State Fault Refusal :=
  .next (s.setLane c lane (refValue (s.blk c).ref1))

/-- Index code 2, step 1 of 7 (R143). -/
def execI2Six (c : Chan) (lane : BitVec 4) (s : State) : Host.Outcome State Fault Refusal :=
  laneInRegime true c lane (sixValue (s.blk c).ref0 (s.blk c).ref1 2) s

/-- Index code 3, step 2 of 7 (R143). -/
def execI3Six (c : Chan) (lane : BitVec 4) (s : State) : Host.Outcome State Fault Refusal :=
  laneInRegime true c lane (sixValue (s.blk c).ref0 (s.blk c).ref1 3) s

/-- Index code 4, step 3 of 7 (R143). -/
def execI4Six (c : Chan) (lane : BitVec 4) (s : State) : Host.Outcome State Fault Refusal :=
  laneInRegime true c lane (sixValue (s.blk c).ref0 (s.blk c).ref1 4) s

/-- Index code 5, step 4 of 7 (R143). -/
def execI5Six (c : Chan) (lane : BitVec 4) (s : State) : Host.Outcome State Fault Refusal :=
  laneInRegime true c lane (sixValue (s.blk c).ref0 (s.blk c).ref1 5) s

/-- Index code 6, step 5 of 7 (R143). -/
def execI6Six (c : Chan) (lane : BitVec 4) (s : State) : Host.Outcome State Fault Refusal :=
  laneInRegime true c lane (sixValue (s.blk c).ref0 (s.blk c).ref1 6) s

/-- Index code 7, step 6 of 7 (R143). -/
def execI7Six (c : Chan) (lane : BitVec 4) (s : State) : Host.Outcome State Fault Refusal :=
  laneInRegime true c lane (sixValue (s.blk c).ref0 (s.blk c).ref1 7) s

/-- Index code 2, step 1 of 5 (R144). -/
def execI2Four (c : Chan) (lane : BitVec 4) (s : State) : Host.Outcome State Fault Refusal :=
  laneInRegime false c lane (fourValue (s.blk c).ref0 (s.blk c).ref1 2) s

/-- Index code 3, step 2 of 5 (R144). -/
def execI3Four (c : Chan) (lane : BitVec 4) (s : State) : Host.Outcome State Fault Refusal :=
  laneInRegime false c lane (fourValue (s.blk c).ref0 (s.blk c).ref1 3) s

/-- Index code 4, step 3 of 5 (R144). -/
def execI4Four (c : Chan) (lane : BitVec 4) (s : State) : Host.Outcome State Fault Refusal :=
  laneInRegime false c lane (fourValue (s.blk c).ref0 (s.blk c).ref1 4) s

/-- Index code 5, step 4 of 5 (R144). -/
def execI5Four (c : Chan) (lane : BitVec 4) (s : State) : Host.Outcome State Fault Refusal :=
  laneInRegime false c lane (fourValue (s.blk c).ref0 (s.blk c).ref1 5) s

/-- Index code 6, the constant 0.0 (R145). -/
def execI6Four (c : Chan) (lane : BitVec 4) (s : State) : Host.Outcome State Fault Refusal :=
  laneInRegime false c lane f0 s

/-- Index code 7, the constant 1.0 (R146). -/
def execI7Four (c : Chan) (lane : BitVec 4) (s : State) : Host.Outcome State Fault Refusal :=
  laneInRegime false c lane f1 s

/-- INTERP_R (R149). -/
def execInterpR (s : State) : Host.Outcome State Fault Refusal := interpChannel .red s

/-- INTERP_G (R149). -/
def execInterpG (s : State) : Host.Outcome State Fault Refusal := interpChannel .green s

end Sys2Proof.Machine
end

