-- ==== Sys2Proof/Machine/Scanner.lean ====
section
/-!
DEFINITION. Unit 4, the tile scanner and the sequencer's own micro-operations, the format-code
rows and the reserved sequencer codes (spec/43_tile_scanner.md R190 to R209; spec/10_state.md R24).
-/

namespace Sys2Proof.Machine

/-- What the machine does with a format code where it stands (log entry 11): RDBLK_R and INTERP_R
choose their successor by it (R196); the check of CONSTRUCT and VALIDATE, made while SEQ = IDLE,
and of CHECK puts it to `Check` with the latched dimensions (R231); no other micro-operation
examines it. -/
def examineFormat (f : BitVec 2) (s : State) : Host.Outcome State Fault Refusal :=
  if s.seq = seqRdblkR then .next (s.setSeq (afterRdblkR f))
  else if s.seq = seqInterpR then .next (s.setSeq (afterInterpR f))
  else if s.seq = seqIdle ∨ s.seq = seqCheck then
    match checkConfig f s.width s.height with
    | some e => .next (s.raise e)
    | none => .next s
  else .next s

/-- Format code 0b00 (R100, R231): `Check` returns UnsupportedFormat. -/
def execFmtNone (s : State) : Host.Outcome State Fault Refusal := examineFormat 0#2 s

/-- Format code 0b01, BC4 (R100): one block per tile, green by ZFILL. -/
def execFmtBc4 (s : State) : Host.Outcome State Fault Refusal := examineFormat 1#2 s

/-- Format code 0b10, BC5 (R100): two blocks per tile, red then green. -/
def execFmtBc5 (s : State) : Host.Outcome State Fault Refusal := examineFormat 2#2 s

/-- Format code 0b11 (R100, R231): `Check` returns UnsupportedFormat. -/
def execFmtBoth (s : State) : Host.Outcome State Fault Refusal := examineFormat 3#2 s

/-- IDLE (R196): the sequencer waits, and all state is kept (R298). -/
def execIdle (s : State) : Host.Outcome State Fault Refusal := .next s

/-- CHECK (R197): format and geometry, then the pass code, then `PASS <- p`. -/
def execCheck (s : State) : Host.Outcome State Fault Refusal :=
  match checkConfig s.fmt s.width s.height with
  | some f => .next (s.raise f)
  | none =>
    if passAvailable s.passSel s.env.hasExtPass then
      .next { s with pass := s.passSel, seq := seqBegin }
    else .next (s.raise .unsupportedPass)

/-- BEGIN (R198): the previous buffer is discarded, the counters cleared, the stream rewound. -/
def execBeginDecode (s : State) : Host.Outcome State Fault Refusal :=
  .next { s with
    err := 0#3, bufValid := false, cur := 0#32, tile := 0#28, tex := 0#4, pixcnt := 0#32,
    seq := seqRdblkR }

/-- TEXXY (R202): the absolute pixel coordinate of texel TEX of tile TILE (log entries 23, 25
for a TPR of 0 and a coordinate beyond 16 bits, which no run reaches). -/
def execTexxy (s : State) : Host.Outcome State Fault Refusal :=
  .next { s with
    px := fit 16 (tileX (tilesPerRow s.width) s.tile.toNat + texelX s.tex.toNat),
    py := fit 16 (tileY (tilesPerRow s.width) s.tile.toNat + texelY s.tex.toNat),
    seq := seqComp }

/-- NEXT (R204): the test uses the value of TILE before the step. -/
def execNextTile (s : State) : Host.Outcome State Fault Refusal :=
  .next { s with
    tile := fit 28 (s.tile.toNat + 1), tex := 0#4,
    seq := if s.tile.toNat + 1 < tileCount s.width s.height then seqRdblkR else seqFinish }

/-- FINISH (R206): the buffer is exposed and the command ends. -/
def execFinish (s : State) : Host.Outcome State Fault Refusal :=
  .next { s with bufValid := true, seq := seqIdle }

/-- SEQ = 13 (R24): no transition enters or leaves it (log entry 13). -/
def execSeqReserved13 (_s : State) : Host.Outcome State Fault Refusal :=
  .fault (.seqReserved 13#4)

/-- SEQ = 14 (R24): no transition enters or leaves it (log entry 13). -/
def execSeqReserved14 (_s : State) : Host.Outcome State Fault Refusal :=
  .fault (.seqReserved 14#4)

/-- SEQ = 15 (R24): no transition enters or leaves it (log entry 13). -/
def execSeqReserved15 (_s : State) : Host.Outcome State Fault Refusal :=
  .fault (.seqReserved 15#4)

end Sys2Proof.Machine
end

