-- ==== Sys2Proof/Machine/WriteBuffer.lean ====
section
/-!
DEFINITION. Unit 5, the pixel write buffer: WRPIX and the host's read of the colour buffer
(spec/44_pixel_write_buffer.md R210 to R215).
-/

namespace Sys2Proof.Machine

/-- (PX, PY) lies in the image: the domain of PIXADDR (R211). -/
def State.pixelInImage (s : State) : Bool :=
  decide (s.px.toNat < s.width.toNat) && decide (s.py.toNat < s.height.toNat)

/-- The address WRPIX stores to, PIXADDR(PX, PY) (R211, R212). -/
def State.storeAddress (s : State) : Nat := pixAddr s.width.toNat s.px.toNat s.py.toNat

/-- WRPIX (R212): three bytes of CB, the pixel count, then the next texel or NEXT. Outside the
image PIXADDR is never evaluated (R211; log entry 24). -/
def execWrpix (s : State) : Host.Outcome State Fault Refusal :=
  if s.pixelInImage then
    .next { s with
      cb := s.cb.writeMany s.storeAddress (pixelBytes s.pix),
      pixcnt := fit 32 (s.pixcnt.toNat + 1),
      tex := if s.tex.toNat < 15 then s.tex + 1#4 else s.tex,
      seq := if s.tex.toNat < 15 then seqTexxy else seqNext }
  else .fault .pixelOutsideImage

/-- `CBRead(a, n)` is permitted (R214), for `n ≥ 1`. -/
def State.cbReadPermitted (s : State) (a n : Nat) : Bool :=
  s.seq == seqIdle && s.bufValid && decide (1 ≤ n)
    && decide (a + n ≤ bufferSize s.width s.height)

/-- The bytes that `CBRead(a, n)` returns when it is permitted (R214). -/
def State.cbBytes (s : State) (a n : Nat) : Option (List Byte) := s.cb.readMany a n

end Sys2Proof.Machine
end

