-- ==== Sys2Proof/Machine/Dispatch.lean ====
section
/-! DEFINITION. The dispatch: one arm per constructor of Instr, each one call of its meaning. -/

namespace Sys2Proof.Machine

/-- The meaning of every instruction; the mnemonics are in LAWS.json. -/
def exec (i : Instr) (s : State) : Host.Outcome State Fault Refusal :=
  match i with
  | .construct fmt w h => Sys2Proof.Machine.execConstruct fmt w h s
  | .validate => Sys2Proof.Machine.execValidate s
  | .decode passSel => Sys2Proof.Machine.execDecode passSel s
  | .illegalOp0 rest => Sys2Proof.Machine.execIllegalOp0 rest s
  | .illegalOp4to7 rest low => Sys2Proof.Machine.execIllegalOp4to7 rest low s
  | .illegalOther w => Sys2Proof.Machine.execIllegalOther w s
  | .block c ref0 ref1 idx => Sys2Proof.Machine.execBlock c ref0 ref1 idx s
  | .i0 c lane => Sys2Proof.Machine.execI0 c lane s
  | .i1 c lane => Sys2Proof.Machine.execI1 c lane s
  | .i2Six c lane => Sys2Proof.Machine.execI2Six c lane s
  | .i3Six c lane => Sys2Proof.Machine.execI3Six c lane s
  | .i4Six c lane => Sys2Proof.Machine.execI4Six c lane s
  | .i5Six c lane => Sys2Proof.Machine.execI5Six c lane s
  | .i6Six c lane => Sys2Proof.Machine.execI6Six c lane s
  | .i7Six c lane => Sys2Proof.Machine.execI7Six c lane s
  | .i2Four c lane => Sys2Proof.Machine.execI2Four c lane s
  | .i3Four c lane => Sys2Proof.Machine.execI3Four c lane s
  | .i4Four c lane => Sys2Proof.Machine.execI4Four c lane s
  | .i5Four c lane => Sys2Proof.Machine.execI5Four c lane s
  | .i6Four c lane => Sys2Proof.Machine.execI6Four c lane s
  | .i7Four c lane => Sys2Proof.Machine.execI7Four c lane s
  | .fmtNone => Sys2Proof.Machine.execFmtNone s
  | .fmtBc4 => Sys2Proof.Machine.execFmtBc4 s
  | .fmtBc5 => Sys2Proof.Machine.execFmtBc5 s
  | .fmtBoth => Sys2Proof.Machine.execFmtBoth s
  | .passVoid => Sys2Proof.Machine.execPassVoid s
  | .passNormal => Sys2Proof.Machine.execPassNormal s
  | .passExt => Sys2Proof.Machine.execPassExt s
  | .passReserved => Sys2Proof.Machine.execPassReserved s
  | .idle => Sys2Proof.Machine.execIdle s
  | .check => Sys2Proof.Machine.execCheck s
  | .beginDecode => Sys2Proof.Machine.execBeginDecode s
  | .rdblkR => Sys2Proof.Machine.execRdblkR s
  | .rdblkG => Sys2Proof.Machine.execRdblkG s
  | .interpR => Sys2Proof.Machine.execInterpR s
  | .interpG => Sys2Proof.Machine.execInterpG s
  | .zfill => Sys2Proof.Machine.execZfill s
  | .texxy => Sys2Proof.Machine.execTexxy s
  | .comp => Sys2Proof.Machine.execComp s
  | .wrpix => Sys2Proof.Machine.execWrpix s
  | .nextTile => Sys2Proof.Machine.execNextTile s
  | .finish => Sys2Proof.Machine.execFinish s
  | .seqReserved13 => Sys2Proof.Machine.execSeqReserved13 s
  | .seqReserved14 => Sys2Proof.Machine.execSeqReserved14 s
  | .seqReserved15 => Sys2Proof.Machine.execSeqReserved15 s

end Sys2Proof.Machine
end

