-- ==== Sys2Proof/Machine/Fetch.lean ====
section
/-!
DEFINITION. Where a step's instruction comes from: SEQ while the sequencer is busy, the host's
next move while it is idle; the reset input before either (spec/00_scope.md R11;
spec/10_state.md R24, R33; spec/45_host_commands.md R230; spec/70_reset_and_hazards.md R311, R318).
-/

namespace Sys2Proof.Machine

/-- The reset input is asserted at this step (R310, R311). -/
def State.resetAsserted (s : State) : Bool := s.env.resetIn.headD false

/-- This step's level of the reset input is used up. -/
def State.tick (s : State) : State :=
  { s with env := { s.env with resetIn := s.env.resetIn.tail } }

/-- The state after an asserted reset (R311): exactly the reset state; the environment, the
stream among it, is not hardware state and is unaffected. -/
def State.afterReset (s : State) : State := State.resetIn s.env

/-- The host's pending moves become `ms`. -/
def State.withMoves (s : State) (ms : List HostMove) : State :=
  { s with env := { s.env with moves := ms } }

/-- A host read has returned `r`; the hardware's state is unchanged (R33, R214). -/
def State.reply (s : State) (r : Reply) : State :=
  { s with env := { s.env with replies := s.env.replies ++ [r] } }

/-- The environment's new stream (R319). -/
def State.withStream (s : State) (bytes : List Byte) : State :=
  { s with env := { s.env with stream := bytes } }

/-- `CBRead(a, n)` (R214): the bytes when it is permitted, otherwise no data; no state of the
hardware changes either way (log entries 3 and 15). -/
def hostCbRead (a n : Nat) (s : State) : Host.Outcome State Fault Refusal :=
  if s.cbReadPermitted a n then
    match s.cbBytes a n with
    | some bs => .next (s.reply (.cb bs))
    | none => .fault .cbUnwritten
  else .next (s.reply .noData)

/-- One move of the host or of the environment (R33, R214, R230, R319). A write of registers 1
to 7 is ignored (R33). -/
def hostMove (m : HostMove) (s : State) : Host.Outcome State Fault Refusal :=
  match m with
  | .csrWrite n w => if n = 0#3 then exec (decode false (.cmd w)) s else .next s
  | .csrRead n => .next (s.reply (.csr (s.csrRead n)))
  | .cbRead a n => hostCbRead a n s
  | .setStream bytes => .next (s.withStream bytes)

/-- A step with the reset input deasserted: the micro-operation that SEQ names while the
sequencer is busy, otherwise the host's next move, otherwise IDLE. -/
def runStep (s : State) : Host.Outcome State Fault Refusal :=
  if s.busy then exec (decode false (.seq s.seq)) s
  else
    match s.env.moves with
    | [] => exec (decode false (.seq s.seq)) s
    | m :: ms => hostMove m (s.withMoves ms)

/-- Store a table word where the step fetches (log entry 7): a 64-bit word as the host's next
command while SEQ = IDLE, a code of at most one byte as the content of SEQ; the reset input is
deasserted for the step that runs it. -/
def State.placeWord (s : State) (nbits w : Nat) : State :=
  if nbits = 64 then
    { s with
      seq := seqIdle,
      env := { s.env with
        moves := .csrWrite 0#3 (BitVec.ofNat 64 w) :: s.env.moves,
        resetIn := false :: s.env.resetIn } }
  else
    { s with
      seq := BitVec.ofNat 4 w,
      env := { s.env with
        moves := if BitVec.ofNat 4 w = seqIdle then [] else s.env.moves,
        resetIn := false :: s.env.resetIn } }

end Sys2Proof.Machine
end

