-- ==== Sys2Proof/Machine/Step.lean ====
section
/-!
DEFINITION. One step of the machine (spec/43_tile_scanner.md R196: "one micro-operation per
step"), and the placing of an instruction where the next step fetches it.
-/

namespace Sys2Proof.Machine

/-- One step: an asserted reset first (R311), otherwise the fetched instruction. -/
def step (s : State) : Host.Outcome State Fault Refusal :=
  if s.resetAsserted then .next s.tick.afterReset else runStep s.tick

/-- `s` with the instruction whose table bits are `w` stored where `step` fetches next (log
entries 1 and 7). -/
def State.withFetchWord (s : State) (nbits w : Nat) : State := s.placeWord nbits w

end Sys2Proof.Machine
end

