-- ==== Sys2Proof/Safety.lean ====
section
/-!
DEFINITION. What a coherent state is, and the image a decode must produce, in the terms that claims
use (spec/10_state.md R38; spec/43_tile_scanner.md R196, R207, R208;
spec/44_pixel_write_buffer.md R213).
-/

namespace Sys2Proof.Machine

/-- The exact value of a ratio. -/
def ratValue (q : Ratio) : ℚ := (q.num : ℚ) / (q.den : ℚ)

/-- The exact value of a `FLOAT` pattern. -/
def floatValue (v : F32) : ℚ := ratValue (valueOf v)

/-- A finite value: the exponent field is not 255 (R250). -/
def isFinite (v : F32) : Prop := expField v < 255

/-- Instruction `i` puts `v` into lane `lane` of channel `c` and changes nothing else. -/
def writesLane (i : Instr) (c : Chan) (lane : BitVec 4) (v : F32) (s : State) : Prop :=
  ∃ t, exec i s = .next t ∧ t.lane c lane = v ∧
    (∀ (d : Chan) (j : BitVec 4), ¬(d = c ∧ j = lane) → t.lane d j = s.lane d j) ∧
    t = { s with chR := t.chR, chG := t.chG }

/-- The latched configuration is one that `Check` passes (R231). -/
def State.configLegal (s : State) : Prop := checkConfig s.fmt s.width s.height = none

/-- NT of the latched configuration (R190). -/
def State.tiles (s : State) : Nat := tileCount s.width s.height

/-- bpt of the latched configuration (R190). -/
def State.bpt (s : State) : Nat := blocksPerTile s.fmt

/-- The number of blocks a decode has read when the sequencer stands at SEQ (R196). -/
def State.blocksRead (s : State) : Nat :=
  if s.seq = seqRdblkR ∨ s.seq = seqFinish then s.bpt * s.tile.toNat
  else if s.seq = seqRdblkG then s.bpt * s.tile.toNat + 1
  else s.bpt * s.tile.toNat + s.bpt

/-- The number of texels of the current tile already written (R208). -/
def State.texelsDone (s : State) : Nat :=
  if s.seq = seqTexxy ∨ s.seq = seqComp ∨ s.seq = seqWrpix then s.tex.toNat
  else if s.seq = seqNext then 16
  else 0

/-- The CB address of texel `i` of tile `t` (R191, R192, R211). -/
def texelAddress (w : BitVec 16) (t i : Nat) : Nat :=
  pixAddr w.toNat (tileX (tilesPerRow w) t + texelX i) (tileY (tilesPerRow w) t + texelY i)

/-- The three bytes of the entry at address `a` have been written. -/
def Memory.entryPresent (m : Memory) (a : Nat) : Prop :=
  (m.read a).isSome ∧ (m.read (a + 1)).isSome ∧ (m.read (a + 2)).isSome

/-- The three bytes of the entry at address `a` are those of the pixel `p` (R102). -/
def Memory.entryIs (m : Memory) (a : Nat) (p : Pixel) : Prop :=
  m.read a = some p.r ∧ m.read (a + 1) = some p.g ∧ m.read (a + 2) = some p.b

/-- Every channel register holds a value in [0.0, 1.0] (R29). -/
def State.lanesInUnit (s : State) : Prop :=
  ∀ (c : Chan) (i : BitVec 4), inUnit (s.lane c i) = true

/-- What holds while a decode is past BEGIN (R25 to R27, R38, R196, R207, R208). -/
structure State.Working (s : State) : Prop where
  bufferHidden : s.bufValid = false
  noError : s.err = 0#3
  tileInside : s.seq ≠ seqFinish → s.tile.toNat < s.tiles
  tileAtEnd : s.seq = seqFinish → s.tile.toNat = s.tiles
  texStart : s.seq.toNat ≤ 7 ∨ s.seq = seqFinish → s.tex = 0#4
  texEnd : s.seq = seqNext → s.tex = 15#4
  cursor : s.cur.toNat = 8 * s.blocksRead
  cursorInStream : s.cur.toNat ≤ s.env.stream.length
  count : s.pixcnt.toNat = 16 * s.tile.toNat + s.texelsDone
  bc5States : s.seq = seqRdblkG ∨ s.seq = seqInterpG → s.fmt = 2#2
  bc4States : s.seq = seqZfill → s.fmt = 1#2
  column : s.seq = seqComp ∨ s.seq = seqWrpix →
    s.px.toNat = tileX (tilesPerRow s.width) s.tile.toNat + texelX s.tex.toNat
  row : s.seq = seqComp ∨ s.seq = seqWrpix →
    s.py.toNat = tileY (tilesPerRow s.width) s.tile.toNat + texelY s.tex.toNat
  earlierTiles : ∀ t i, t < s.tile.toNat → i < 16 → s.cb.entryPresent (texelAddress s.width t i)
  thisTile : ∀ i, i < s.texelsDone → s.cb.entryPresent (texelAddress s.width s.tile.toNat i)

/-- What holds while the buffer is exposed (R23, R207, R208). -/
structure State.Exposed (s : State) : Prop where
  config : s.configLegal
  tileAtEnd : s.tile.toNat = s.tiles
  texAtStart : s.tex = 0#4
  cursor : s.cur.toNat = 8 * (s.bpt * s.tiles)
  count : s.pixcnt.toNat = s.width.toNat * s.height.toNat
  complete : ∀ a, a < bufferSize s.width s.height → (s.cb.read a).isSome

/-- A coherent state: what every state a run reaches satisfies; `running` is R23 on the ERR of a
command that is still running. -/
structure State.Coherent (s : State) : Prop where
  memory : s.cb.wf = true
  seqCode : s.seq.toNat ≤ 12
  errCode : s.err.toNat ≤ 5
  running : s.seq ≠ seqIdle → s.err = 0#3
  lanes : s.lanesInUnit
  checked : 2 ≤ s.seq.toNat → s.configLegal ∧ passAvailable s.pass s.env.hasExtPass = true
  working : 3 ≤ s.seq.toNat → s.Working
  exposed : s.bufValid = true → s.Exposed

/-- The value of channel `c` at texel `i` of tile `t` of the stream: the block that carries it
(R95, R193) through `interp`, or 0.0 for green in BC4 (R161). -/
def texelChannel (stream : List Byte) (fmt : BitVec 2) (c : Chan) (t i : Nat) : Option F32 :=
  let bpt := blocksPerTile fmt
  match c with
  | .red =>
    (blockAt stream (8 * (bpt * t))).map fun b => interp b.ref0 b.ref1 (idxCode b.idx i)
  | .green =>
    if bpt = 2 then
      (blockAt stream (8 * (bpt * t + 1))).map fun b => interp b.ref0 b.ref1 (idxCode b.idx i)
    else some f0

/-- The pixel (x, y) of the image that R213 describes: texel `4·(y mod 4) + (x mod 4)` of tile
`(y div 4)·TPR + (x div 4)`, through the pass `p` and `quant`. -/
def imagePixel (stream : List Byte) (fmt : BitVec 2) (w : BitVec 16) (p : BitVec 2)
    (hasExt : Bool) (x y : Nat) : Option Pixel :=
  let t := y / 4 * tilesPerRow w + x / 4
  let i := 4 * (y % 4) + x % 4
  match texelChannel stream fmt .red t i, texelChannel stream fmt .green t i with
  | some c0, some c1 => (passFunction p hasExt c0 c1).bind toPixel
  | _, _ => none

end Sys2Proof.Machine
end

