-- ==== Sys2Proof/Certificates/Slice0/Obligations.lean ====
section
/-!
DEFINITION. The statements for the provers, listed in OBLIGATIONS.json. Each docstring names the rules
of spec/ the statement formalises, or says that it is the model's choice and names the log entry.
-/

open Sys2Proof Sys2Proof.Machine

/-! ## Encodings -/

/-- R91, R92, R96, R97, R100, R104, R24: decoding an encoded well-formed row, in a regime the row
holds in, gives the row back, with every operand. -/
def Obligations.DecodeOfEncode : Prop :=
  ∀ (i : Instr) (six : Bool), i.wf = true → i.fits six = true → decode six (encode i) = i

/-- The other direction: of every code of every format, every one of the 2^64 command words and
of the 2^64 block words among them, no bit is dropped. -/
def Obligations.EncodeOfDecode : Prop :=
  ∀ (six : Bool) (e : Encoded), encode (decode six e) = e

/-- What the decoder gives is a well-formed row that holds in the regime it was given. -/
def Obligations.DecodedRowsAreWellFormed : Prop :=
  ∀ (six : Bool) (e : Encoded), (decode six e).wf = true ∧ (decode six e).fits six = true

/-- R236: the predicate on the fields of a command word, and the mask and match form of each
legal command. -/
def Obligations.LegalWordsByMask : Prop :=
  ∀ w : Word64,
    (legal w = true ↔
      w.getLsbD 3 = false ∧ w.extractLsb' 8 8 = 0#8 ∧ w.extractLsb' 48 16 = 0#16 ∧
      (w.extractLsb' 0 3 = 1#3 ∨ w.extractLsb' 0 3 = 2#3 ∨ w.extractLsb' 0 3 = 3#3) ∧
      (w.extractLsb' 0 3 = 1#3 → w.extractLsb' 6 2 = 0#2) ∧
      (w.extractLsb' 0 3 = 2#3 ∨ w.extractLsb' 0 3 = 3#3 →
        w.extractLsb' 4 2 = 0#2 ∧ w.extractLsb' 16 32 = 0#32) ∧
      (w.extractLsb' 0 3 = 2#3 → w.extractLsb' 6 2 = 0#2)) ∧
    (legal w = true ∧ w.extractLsb' 0 3 = 1#3 ↔ w &&& 0xFFFF00000000FFCF#64 = 1#64) ∧
    (legal w = true ∧ w.extractLsb' 0 3 = 2#3 ↔ w = 2#64) ∧
    (legal w = true ∧ w.extractLsb' 0 3 = 3#3 ↔ w &&& 0xFFFFFFFFFFFFFF3F#64 = 3#64)

/-- R235: a command word for which `Legal` is false raises IllegalCommand (code 5), and nothing
else changes, neither hardware nor environment; the sequencer is idle, as R230 requires. -/
def Obligations.IllegalWordRaisesIllegalCommand : Prop :=
  ∀ (w : Word64) (six : Bool) (s : State), legal w = false → s.seq = 0#4 →
    exec (decode six (.cmd w)) s = .next { s with err := 5#3 }

/-- Words written out from the encodings of spec/30_encoding.md and spec/95_test_vectors.md
decode to the rows they stand for: one at least of every format. -/
def Obligations.SpecWordsDecode : Prop :=
  decode false (.cmd 0x0000000400080021#64) = .construct 2#2 8#16 4#16 ∧
  decode false (.cmd 0x0000000000000002#64) = .validate ∧
  decode false (.cmd 0x0000000000000043#64) = .decode 1#2 ∧
  decode false (.cmd 0x000000000000000B#64) = .illegalOther 0xB#64 ∧
  decode false (.blk .red 0x053977FAC68864C8#64) = .block .red 200#8 100#8 0x053977FAC688#48 ∧
  decode true (.idx .red 5#4 0b101#3) = .i5Six .red 5#4 ∧
  decode false (.idx .green 5#4 0b110#3) = .i6Four .green 5#4 ∧
  decode false (.fmt 0b10#2) = .fmtBc5 ∧
  decode false (.pass 0b01#2) = .passNormal ∧
  decode false (.seq 0b1010#4) = .wrpix

/-! ## The step, the host and reset -/

/-- R24, R196: with the reset input deasserted and the sequencer busy, or idle with no move of
the host pending, a step is the meaning of the row that SEQ decodes to; the step itself only uses
up one level of the reset input. IDLE keeps all state (R298). -/
def Obligations.StepRunsMicroOperation : Prop :=
  (∀ (s : State) (six : Bool) (i : Instr), s.env.resetIn.headD false = false →
    (s.seq ≠ 0#4 ∨ s.env.moves = []) → decode six (.seq s.seq) = i → i.wf = true →
    step s = exec i { s with env := { s.env with resetIn := s.env.resetIn.tail } }) ∧
  (∀ s : State, exec .idle s = .next s)

/-- R33, R230: with the reset input deasserted and the sequencer idle, a pending write of control
register 0 runs the row that its word decodes to, on the state with that move used up. -/
def Obligations.StepRunsHostCommand : Prop :=
  ∀ (s : State) (six : Bool) (w : Word64) (ms : List HostMove) (i : Instr),
    s.env.resetIn.headD false = false → s.seq = 0#4 →
    s.env.moves = .csrWrite 0#3 w :: ms → decode six (.cmd w) = i → i.wf = true →
    step s = exec i
      { s with env := { s.env with moves := ms, resetIn := s.env.resetIn.tail } }

/-- R310, R311: an asserted reset ends whatever is in progress; the state is exactly the reset
state (the values of R37, and for what R37 leaves unspecified the model's, log entries 2 to 4),
no failure is recorded, and the environment, the stream among it, is unaffected. -/
def Obligations.ResetEndsWhateverRuns : Prop :=
  ∀ (s : State) (rest : List Bool), s.env.resetIn = true :: rest →
    step s = .next { State.reset with env := { s.env with resetIn := rest } } ∧
    State.reset.err = 0#3 ∧ State.reset.seq = 0#4 ∧ State.reset.bufValid = false

/-- R37: the values that the spec gives for reset (those it leaves unspecified are not stated). -/
def Obligations.ResetLeavesTheSpecValues : Prop :=
  State.reset.fmt = 0#2 ∧ State.reset.width = 0#16 ∧ State.reset.height = 0#16 ∧
  State.reset.pass = 0#2 ∧ State.reset.seq = 0#4 ∧ State.reset.busy = false ∧
  State.reset.bufValid = false ∧ State.reset.err = 0#3 ∧ State.reset.cur = 0#32 ∧
  State.reset.tile = 0#28 ∧ State.reset.tex = 0#4 ∧ State.reset.pixcnt = 0#32

/-- R32: the eight control registers as numbers, whose unlisted bits are zero; which can be
written (CMD alone, and a write of another leaves the state); and their values after reset. -/
def Obligations.ControlRegisterMap : Prop :=
  (∀ s : State,
    (s.csrRead 0#3).toNat = 0 ∧
    (s.csrRead 1#3).toNat =
      (if s.seq = 0#4 then 0 else 1) + 2 * (if s.bufValid then 1 else 0) + 4 * s.err.toNat ∧
    (s.csrRead 2#3).toNat =
      16 * s.fmt.toNat + 64 * s.pass.toNat + 2 ^ 16 * s.width.toNat + 2 ^ 32 * s.height.toNat ∧
    (s.csrRead 3#3).toNat = s.cur.toNat ∧
    (s.csrRead 4#3).toNat = s.tile.toNat ∧
    (s.csrRead 5#3).toNat = s.pixcnt.toNat ∧
    (s.csrRead 6#3).toNat = 0 ∧ (s.csrRead 7#3).toNat = 0) ∧
  (∀ (s : State) (w : Word64) (six : Bool),
    hostMove (.csrWrite 0#3 w) s = exec (decode six (.cmd w)) s) ∧
  (∀ (s : State) (n : BitVec 3) (w : Word64), n ≠ 0#3 → hostMove (.csrWrite n w) s = .next s) ∧
  (∀ n : BitVec 3, State.reset.csrRead n = 0#64)

/-- R33, R214: what a step does for a host read while the sequencer is idle. `CsrRead` returns
the register; `CBRead` returns the bytes exactly when BUF_VALID = 1 and the range lies in the
buffer, and otherwise no data; the hardware's state never changes. A permitted read of a byte that
nothing has written stops by name, which is the model's choice (log entry 3); that no run meets one
is the statement CoherentStatesNeverStop. -/
def Obligations.HostReadsChangeNoHardwareState : Prop :=
  (∀ (s : State) (n : BitVec 3) (ms : List HostMove), s.env.resetIn.headD false = false →
    s.seq = 0#4 → s.env.moves = .csrRead n :: ms →
    step s = .next { s with env := { s.env with
      moves := ms, replies := s.env.replies ++ [.csr (s.csrRead n)],
      resetIn := s.env.resetIn.tail } }) ∧
  (∀ (s : State) (a n : Nat) (ms : List HostMove), s.env.resetIn.headD false = false →
    s.seq = 0#4 → s.env.moves = .cbRead a n :: ms → 1 ≤ n →
    (s.bufValid = true ∧ a + n ≤ 3 * s.width.toNat * s.height.toNat →
      (∀ k, k < n → (s.cb.read (a + k)).isSome) →
      ∃ bytes : List Byte, bytes.length = n ∧
        (∀ k, (hk : k < bytes.length) → s.cb.read (a + k) = some bytes[k]) ∧
        step s = .next { s with env := { s.env with
          moves := ms, replies := s.env.replies ++ [.cb bytes],
          resetIn := s.env.resetIn.tail } }) ∧
    (s.bufValid = true ∧ a + n ≤ 3 * s.width.toNat * s.height.toNat →
      (∃ k, k < n ∧ s.cb.read (a + k) = none) → step s = .fault .cbUnwritten) ∧
    (¬(s.bufValid = true ∧ a + n ≤ 3 * s.width.toNat * s.height.toNat) →
      step s = .next { s with env := { s.env with
        moves := ms, replies := s.env.replies ++ [.noData],
        resetIn := s.env.resetIn.tail } }))

/-! ## Commands -/

/-- R231, R232: CONSTRUCT in an idle machine latches the three registers whether or not the
check passes, drops the buffer, clears the progress counters, and reports format before
geometry; nothing else changes. -/
def Obligations.ConstructLatchesAndChecks : Prop :=
  ∀ (s : State) (f : BitVec 2) (w h : BitVec 16), s.seq = 0#4 →
    exec (.construct f w h) s = .next { s with
      fmt := f, width := w, height := h, bufValid := false,
      cur := 0#32, tile := 0#28, pixcnt := 0#32,
      err :=
        if f ≠ 1#2 ∧ f ≠ 2#2 then 1#3
        else if w = 0#16 ∨ h = 0#16 ∨ w.toNat % 4 ≠ 0 ∨ h.toNat % 4 ≠ 0 then 3#3
        else 0#3 }

/-- R231, R233: VALIDATE in an idle machine writes ERR and nothing else. -/
def Obligations.ValidateWritesOnlyErr : Prop :=
  ∀ s : State, s.seq = 0#4 →
    exec .validate s = .next { s with
      err :=
        if s.fmt ≠ 1#2 ∧ s.fmt ≠ 2#2 then 1#3
        else if s.width = 0#16 ∨ s.height = 0#16 ∨
            s.width.toNat % 4 ≠ 0 ∨ s.height.toNat % 4 ≠ 0 then 3#3
        else 0#3 }

/-- R23, R234: DECODE in an idle machine starts the sequencer at CHECK, with its PASS_SEL as the
operand that CHECK reads (held in a field of the model's own, log entry 4), and ERR is 0 while the
command runs; nothing else changes. That the command write is a step of its own, and that ERR is
cleared in it, are read from the rules by inference (log entries 5 and 6). -/
def Obligations.DecodeStartsTheSequencer : Prop :=
  ∀ (s : State) (p : BitVec 2), s.seq = 0#4 →
    exec (.decode p) s = .next { s with seq := 1#4, err := 0#3, passSel := p }

/-- R235: each of the three illegal rows, with every operand, raises IllegalCommand in an idle
machine; nothing else changes. -/
def Obligations.IllegalRowsRaise : Prop :=
  ∀ (s : State) (rest : BitVec 61) (low : BitVec 2) (w : Word64), s.seq = 0#4 →
    exec (.illegalOp0 rest) s = .next { s with err := 5#3 } ∧
    exec (.illegalOp4to7 rest low) s = .next { s with err := 5#3 } ∧
    exec (.illegalOther w) s = .next { s with err := 5#3 }

/-- R230 ("accepted only when SEQ = IDLE") and U4 of spec/93_implementation_defined.md: while the
sequencer is busy every command row is refused by name (log entry 14). -/
def Obligations.CommandsAreRefusedWhileBusy : Prop :=
  ∀ (s : State) (f p low : BitVec 2) (w h : BitVec 16) (rest : BitVec 61) (x : Word64),
    s.seq ≠ 0#4 →
    ∀ i ∈ [Instr.construct f w h, .validate, .decode p, .illegalOp0 rest,
        .illegalOp4to7 rest low, .illegalOther x],
      exec i s = .refused .hostWhileBusy

/-! ## Block reader -/

/-- R121, R63, R91: with 8 bytes remaining, RDBLK c loads BLK[c] from them, little-endian, adds 8
to CUR and goes to its successor; nothing else changes. CUR + 8 fits 32 bits (R25). -/
def Obligations.RdblkLoadsTheBlock : Prop :=
  ∀ (s : State) (c : Chan), s.cur.toNat + 8 ≤ s.env.stream.length → s.cur.toNat + 8 < 2 ^ 32 →
    ∃ t, exec (match c with | .red => .rdblkR | .green => .rdblkG) s = .next t ∧
      (t.blk c).ref0 = s.env.stream.getD s.cur.toNat 0#8 ∧
      (t.blk c).ref1 = s.env.stream.getD (s.cur.toNat + 1) 0#8 ∧
      (t.blk c).idx.toNat = ∑ k ∈ Finset.range 6,
        (s.env.stream.getD (s.cur.toNat + 2 + k) 0#8).toNat * 2 ^ (8 * k) ∧
      (∀ d, d ≠ c → t.blk d = s.blk d) ∧
      t.cur.toNat = s.cur.toNat + 8 ∧
      t.seq = (if c = .red ∧ s.fmt = 2#2 then 4#4 else 5#4) ∧
      t = { s with blkR := t.blkR, blkG := t.blkG, cur := t.cur, seq := t.seq }

/-- R123, R286: with fewer than 8 bytes remaining, RDBLK takes StreamUnderrun; BLK[c], CUR and
everything else but ERR and SEQ keep their content. -/
def Obligations.RdblkUnderruns : Prop :=
  ∀ s : State, s.env.stream.length < s.cur.toNat + 8 →
    exec .rdblkR s = .next { s with err := 2#3, seq := 0#4 } ∧
    exec .rdblkG s = .next { s with err := 2#3, seq := 0#4 }

/-- R91, R121: the row BLOCK does what a block read does with those 8 bytes. That the row takes
its channel from its place in the stream is the model's choice (log entries 8 and 9). -/
def Obligations.BlockRowLoadsTheBlock : Prop :=
  ∀ (s : State) (r0 r1 : Byte) (ix : BitVec 48), s.cur.toNat + 8 < 2 ^ 32 →
    exec (.block .red r0 r1 ix) s = .next { s with
      blkR := ⟨r0, r1, ix⟩, cur := BitVec.ofNat 32 (s.cur.toNat + 8),
      seq := if s.fmt = 2#2 then 4#4 else 5#4 } ∧
    exec (.block .green r0 r1 ix) s = .next { s with
      blkG := ⟨r0, r1, ix⟩, cur := BitVec.ofNat 32 (s.cur.toNat + 8), seq := 5#4 }

/-- The micro-operation and the row agree: RDBLK c is the row BLOCK that the 8 bytes at CUR
decode to (log entry 9). -/
def Obligations.RdblkRunsTheBlockRow : Prop :=
  ∀ (s : State) (i : Instr) (c : Chan),
    decodeBytes (.blk64 c) false ((s.env.stream.drop s.cur.toNat).take 8) = .ok i →
    exec (match c with | .red => .rdblkR | .green => .rdblkG) s = exec i s

/-! ## Channel interpolator -/

/-- R141, R142: index codes 0 and 1 give the normalised reference exactly, in either regime; the
clamp does not change it. -/
def Obligations.IndexCodesZeroAndOne : Prop :=
  ∀ (s : State) (c : Chan) (lane : BitVec 4),
    writesLane (.i0 c lane) c lane (fdiv (u8ToF (s.blk c).ref0) f255) s ∧
    writesLane (.i1 c lane) c lane (fdiv (u8ToF (s.blk c).ref1) f255) s

/-- R143, R144: the interior rows, each in its regime: the five rounded operations in the order
written and the clamp, into one lane; nothing else changes. -/
def Obligations.InteriorRowsWriteTheirLane : Prop :=
  ∀ (s : State) (c : Chan) (lane : BitVec 4),
    let r0 := fdiv (u8ToF (s.blk c).ref0) f255
    let r1 := fdiv (u8ToF (s.blk c).ref1) f255
    let six := fun step : Nat =>
      clamp01 (fdiv (fadd (fmul r0 (intToF (7 - step))) (fmul r1 (intToF step))) f7)
    let four := fun step : Nat =>
      clamp01 (fdiv (fadd (fmul r0 (intToF (5 - step))) (fmul r1 (intToF step))) f5)
    ((s.blk c).ref1.toNat < (s.blk c).ref0.toNat →
      writesLane (.i2Six c lane) c lane (six 1) s ∧ writesLane (.i3Six c lane) c lane (six 2) s ∧
      writesLane (.i4Six c lane) c lane (six 3) s ∧ writesLane (.i5Six c lane) c lane (six 4) s ∧
      writesLane (.i6Six c lane) c lane (six 5) s ∧ writesLane (.i7Six c lane) c lane (six 6) s) ∧
    ((s.blk c).ref0.toNat ≤ (s.blk c).ref1.toNat →
      writesLane (.i2Four c lane) c lane (four 1) s ∧
      writesLane (.i3Four c lane) c lane (four 2) s ∧
      writesLane (.i4Four c lane) c lane (four 3) s ∧
      writesLane (.i5Four c lane) c lane (four 4) s)

/-- R145, R146: in the 4-step regime index code 6 is 0.0 and index code 7 is 1.0, whatever the
references. That the two rows, run alone, write their one lane and leave SEQ is the model's choice
(log entry 8). -/
def Obligations.AnchorCodesAreExact : Prop :=
  (∀ ref0 ref1 : Byte, ref0.toNat ≤ ref1.toNat →
    interp ref0 ref1 6#3 = 0x00000000#32 ∧ interp ref0 ref1 7#3 = 0x3F800000#32 ∧
    (quant (interp ref0 ref1 6#3)).toNat = 0 ∧ (quant (interp ref0 ref1 7#3)).toNat = 255) ∧
  (∀ (s : State) (c : Chan) (lane : BitVec 4), (s.blk c).ref0.toNat ≤ (s.blk c).ref1.toNat →
    decode false (.idx c lane 0b110#3) = .i6Four c lane ∧
    decode false (.idx c lane 0b111#3) = .i7Four c lane ∧
    writesLane (.i6Four c lane) c lane 0x00000000#32 s ∧
    writesLane (.i7Four c lane) c lane 0x3F800000#32 s)

/-- R96: a row of one regime does not apply in the other; the model stops by name there, which
is its choice (log entry 10). -/
def Obligations.RowsOutsideTheirRegimeStop : Prop :=
  ∀ (s : State) (c : Chan) (lane : BitVec 4),
    ((s.blk c).ref0.toNat ≤ (s.blk c).ref1.toNat →
      ∀ i ∈ [Instr.i2Six c lane, .i3Six c lane, .i4Six c lane, .i5Six c lane, .i6Six c lane,
          .i7Six c lane], exec i s = .refused .otherRegime) ∧
    ((s.blk c).ref1.toNat < (s.blk c).ref0.toNat →
      ∀ i ∈ [Instr.i2Four c lane, .i3Four c lane, .i4Four c lane, .i5Four c lane,
          .i6Four c lane, .i7Four c lane], exec i s = .refused .otherRegime)

/-- R149, R122, R196: INTERP c writes all sixteen registers of CH[c], lane `i` by index code `i`
of the block, and goes to its successor; nothing else changes. -/
def Obligations.InterpFillsTheChannel : Prop :=
  ∀ s : State,
    (∃ t, exec .interpR s = .next t ∧
      (∀ i : BitVec 4, t.lane .red i = interp s.blkR.ref0 s.blkR.ref1
        (BitVec.ofNat 3 (s.blkR.idx.toNat / 2 ^ (3 * i.toNat)))) ∧
      t = { s with chR := t.chR, seq := if s.fmt = 2#2 then 6#4 else 7#4 }) ∧
    (∃ t, exec .interpG s = .next t ∧
      (∀ i : BitVec 4, t.lane .green i = interp s.blkG.ref0 s.blkG.ref1
        (BitVec.ofNat 3 (s.blkG.idx.toNat / 2 ^ (3 * i.toNat)))) ∧
      t = { s with chG := t.chG, seq := 8#4 })

/-- The micro-operation and the rows agree: what INTERP leaves in a lane is what the index-code
row that the block holds for that lane writes there (R96, R147, R149; log entry 8). -/
def Obligations.InterpLanesAreTheRows : Prop :=
  ∀ (s t : State) (c : Chan) (i : BitVec 4),
    exec (match c with | .red => .interpR | .green => .interpG) s = .next t →
    writesLane (decode (s.six c) (.idx c i (idxCode (s.blk c).idx i.toNat))) c i (t.lane c i) s

/-- R148: every result of `interp` lies in [0.0, 1.0] and is no negative zero, and the clamp
never changes a value. -/
def Obligations.InterpNeverNeedsTheClamp : Prop :=
  (∀ (ref0 ref1 : Byte) (code : BitVec 3), (interp ref0 ref1 code).toNat ≤ 0x3F800000) ∧
  (∀ ref : Byte, clamp01 (normRef ref) = normRef ref) ∧
  (∀ (ref0 ref1 : Byte) (step : Nat), 1 ≤ step → step ≤ 6 → ref1.toNat < ref0.toNat →
    let v := fdiv (fadd (fmul (normRef ref0) (intToF (7 - step)))
      (fmul (normRef ref1) (intToF step))) f7
    clamp01 v = v) ∧
  (∀ (ref0 ref1 : Byte) (step : Nat), 1 ≤ step → step ≤ 4 → ref0.toNat ≤ ref1.toNat →
    let v := fdiv (fadd (fmul (normRef ref0) (intToF (5 - step)))
      (fmul (normRef ref1) (intToF step))) f5
    clamp01 v = v)

/-- R150 (c) and (d): strictly decreasing over codes 0, 2, 3, 4, 5, 6, 7, 1 for REF0 > REF1, and
non-decreasing over codes 0, 2, 3, 4, 5, 1 for REF0 < REF1; patterns of values not below zero
are ordered as their values. Equal references are excluded (spec/90_conflicts.md C4). -/
def Obligations.LaddersAreMonotone : Prop :=
  (∀ ref0 ref1 : Byte, ref1.toNat < ref0.toNat →
    let v := fun k : Nat => (interp ref0 ref1 (BitVec.ofNat 3 k)).toNat
    v 1 < v 7 ∧ v 7 < v 6 ∧ v 6 < v 5 ∧ v 5 < v 4 ∧ v 4 < v 3 ∧ v 3 < v 2 ∧ v 2 < v 0) ∧
  (∀ ref0 ref1 : Byte, ref0.toNat < ref1.toNat →
    let v := fun k : Nat => (interp ref0 ref1 (BitVec.ofNat 3 k)).toNat
    v 0 ≤ v 2 ∧ v 2 ≤ v 3 ∧ v 3 ≤ v 4 ∧ v 4 ≤ v 5 ∧ v 5 ≤ v 1)

/-- R263: a reference byte survives normalisation and `quant`. -/
def Obligations.ReferenceBytesSurvive : Prop :=
  ∀ x : Byte, quant (fdiv (u8ToF x) f255) = x

/-! ## Numeric primitives -/

/-- R251: for every magnitude from 2^-126 up to 2^128 - 2^103 `rnd32` gives the binary32 value
nearest to the rational, of two equally near ones the one with even fraction field; it is odd, and 0
gives +0.0. From 2^128 - 2^103 on, `u · rne(q / u)` is 2^128, which is no binary32 value (log entry
21). -/
def Obligations.RoundingIsNearestEven : Prop :=
  (∀ n d : Nat, 0 < n → 0 < d → d ≤ n * 2 ^ 126 → n < d * (2 ^ 128 - 2 ^ 103) →
    let q : ℚ := (n : ℚ) / (d : ℚ)
    let r := rnd32 ⟨(n : Int), d⟩
    isFinite r ∧ rnd32 ⟨-(n : Int), d⟩ = r ^^^ 0x80000000#32 ∧
    ∀ v : F32, isFinite v →
      |floatValue r - q| ≤ |floatValue v - q| ∧
      (|floatValue r - q| = |floatValue v - q| → floatValue v ≠ floatValue r →
        fracField r % 2 = 0)) ∧
  (∀ d : Nat, rnd32 ⟨0, d⟩ = 0x00000000#32)

/-- R259: `fsqrt` of a positive normal value gives the binary32 value nearest to the exact real
square root, of two equally near ones the one with even fraction field, and +0.0 for +0.0. -/
def Obligations.SquareRootIsNearest : Prop :=
  (∀ a : F32, isFinite a → signBit a = false → 0x00800000 ≤ a.toNat →
    let x : ℝ := Real.sqrt ((floatValue a : ℚ) : ℝ)
    isFinite (fsqrt a) ∧
    ∀ v : F32, isFinite v →
      |((floatValue (fsqrt a) : ℚ) : ℝ) - x| ≤ |((floatValue v : ℚ) : ℝ) - x| ∧
      (|((floatValue (fsqrt a) : ℚ) : ℝ) - x| = |((floatValue v : ℚ) : ℝ) - x| →
        floatValue v ≠ floatValue (fsqrt a) → fracField (fsqrt a) % 2 = 0)) ∧
  fsqrt 0x00000000#32 = 0x00000000#32

/-! ## Channel compositor -/

/-- R161: ZFILL puts positive zero into all sixteen registers of CH[1]; nothing else changes. -/
def Obligations.ZfillClearsGreen : Prop :=
  ∀ s : State, ∃ t, exec .zfill s = .next t ∧
    (∀ i : BitVec 4, t.lane .green i = 0x00000000#32) ∧
    t = { s with chG := t.chG, seq := 8#4 }

/-- R162 to R164, R166, R167, R171: COMP on channel values in [0.0, 1.0], for each pass that has
a function behind it; nothing but PIX and SEQ changes. -/
def Obligations.CompComposesTheTexel : Prop :=
  ∀ s : State,
    let c0 := s.lane .red s.tex
    let c1 := s.lane .green s.tex
    let nx := fsub (fmul f2 c0) f1
    let ny := fsub (fmul f2 c1) f1
    let blue := clamp01 (fdiv (fadd (fsqrt (fmax0 (fsub (fsub f1 (fmul nx nx)) (fmul ny ny))))
      f1) f2)
    inUnit c0 = true → inUnit c1 = true →
    (s.pass = 0#2 →
      exec .comp s = .next { s with pix := ⟨quant c0, quant c1, 0#8⟩, seq := 10#4 }) ∧
    (s.pass = 1#2 →
      exec .comp s = .next { s with pix := ⟨quant c0, quant c1, quant blue⟩, seq := 10#4 }) ∧
    (s.pass = 2#2 → s.env.hasExtPass = true →
      exec .comp s = .next { s with
        pix := ⟨quant (unitPattern (Config.extPass c0 c1).1),
          quant (unitPattern (Config.extPass c0 c1).2.1),
          quant (unitPattern (Config.extPass c0 c1).2.2)⟩,
        seq := 10#4 })

/-- R163, R164, R166, R285: the pass-code rows on the current texel: the pass result into PIX and
nothing else, and UnsupportedPass for the reserved code and for EXT without `EXT_PASS`. That a
row acts on the current texel is the model's choice (log entry 12). -/
def Obligations.PassRowsComposeTheTexel : Prop :=
  ∀ s : State,
    let c0 := s.lane .red s.tex
    let c1 := s.lane .green s.tex
    (inUnit c0 = true → inUnit c1 = true →
      exec .passVoid s = .next { s with pix := ⟨quant c0, quant c1, 0#8⟩ } ∧
      exec .passNormal s =
        .next { s with pix := ⟨quant c0, quant c1, quant (normalBlue c0 c1)⟩ } ∧
      (s.env.hasExtPass = true →
        exec .passExt s = .next { s with
          pix := ⟨quant (unitPattern (Config.extPass c0 c1).1),
            quant (unitPattern (Config.extPass c0 c1).2.1),
            quant (unitPattern (Config.extPass c0 c1).2.2)⟩ })) ∧
    (s.env.hasExtPass = false →
      exec .passExt s = .next { s with err := 4#3, seq := 0#4 }) ∧
    exec .passReserved s = .next { s with err := 4#3, seq := 0#4 }

/-- R162 and U10 of spec/93_implementation_defined.md: COMP stops by name on a PASS with no function
behind it, and, as the rows of the two built-in passes do, on a channel value outside [0.0, 1.0],
where `quant` has no meaning; both stops are the model's choice for states no run reaches (log
entries 19 and 20). -/
def Obligations.CompStopsOutsideItsDomain : Prop :=
  ∀ s : State,
    (s.pass = 3#2 ∨ (s.pass = 2#2 ∧ s.env.hasExtPass = false) →
      exec .comp s = .refused .noPassFunction) ∧
    (inUnit (s.lane .red s.tex) = false ∨ inUnit (s.lane .green s.tex) = false →
      (s.pass = 0#2 ∨ s.pass = 1#2 → exec .comp s = .refused .passResultOutOfRange) ∧
      exec .passVoid s = .refused .passResultOutOfRange ∧
      exec .passNormal s = .refused .passResultOutOfRange)

/-- R165 (b): the blue value of the normal-map pass lies in [0.5, 1.0], so its byte is at least
127. -/
def Obligations.NormalBlueIsInTheUpperHalf : Prop :=
  ∀ c0 c1 : F32, inUnit c0 = true → inUnit c1 = true →
    0x3F000000 ≤ (normalBlue c0 c1).toNat ∧ (normalBlue c0 c1).toNat ≤ 0x3F800000 ∧
    127 ≤ (quant (normalBlue c0 c1)).toNat

/-- R165 (e): with green 0.0, as ZFILL leaves it in BC4, the normal-map pass gives blue 0.5,
byte 127, whatever the red channel. -/
def Obligations.NormalPassOnBc4 : Prop :=
  ∀ c0 : F32, inUnit c0 = true →
    normalBlue c0 0x00000000#32 = 0x3F000000#32 ∧
    (quant (normalBlue c0 0x00000000#32)).toNat = 127

/-! ## Tile scanner and sequencer -/

/-- R197, R231, R284, R286: CHECK, its tests in their order; a failure changes ERR and SEQ only,
success writes PASS. -/
def Obligations.CheckOutcomesInOrder : Prop :=
  ∀ s : State, exec .check s = .next
    (if s.fmt ≠ 1#2 ∧ s.fmt ≠ 2#2 then { s with err := 1#3, seq := 0#4 }
     else if s.width = 0#16 ∨ s.height = 0#16 ∨
         s.width.toNat % 4 ≠ 0 ∨ s.height.toNat % 4 ≠ 0 then { s with err := 3#3, seq := 0#4 }
     else if s.passSel = 3#2 ∨ (s.passSel = 2#2 ∧ s.env.hasExtPass = false) then
       { s with err := 4#3, seq := 0#4 }
     else { s with pass := s.passSel, seq := 2#4 })

/-- R198, R206: BEGIN and FINISH, every register they write and nothing else. R198 leaves the
content of CB unspecified from BEGIN to FINISH; that BEGIN keeps it is read from R287 (log entry
26). -/
def Obligations.BeginAndFinish : Prop :=
  ∀ s : State,
    exec .beginDecode s = .next { s with
      err := 0#3, bufValid := false, cur := 0#32, tile := 0#28, tex := 0#4, pixcnt := 0#32,
      seq := 3#4 } ∧
    exec .finish s = .next { s with bufValid := true, seq := 0#4 }

/-- R202, R190 to R192: TEXXY on a tile of the image gives the pixel of its texel, inside the
image; it writes PX, PY and SEQ only. That it completes where TPR is 0 or a coordinate does not fit
16 bits, with free values in PX and PY, is the model's choice (DESIGN CHOICE, log entries 23 and 25);
R8, R190 and R264 give nothing there. -/
def Obligations.TexxyGivesThePixel : Prop :=
  ∀ s : State, ∃ t, exec .texxy s = .next t ∧
    t = { s with px := t.px, py := t.py, seq := 9#4 } ∧
    (s.tile.toNat < (s.width.toNat / 4) * (s.height.toNat / 4) →
      t.px.toNat = 4 * (s.tile.toNat % (s.width.toNat / 4)) + s.tex.toNat % 4 ∧
      t.py.toNat = 4 * (s.tile.toNat / (s.width.toNat / 4)) + s.tex.toNat / 4 ∧
      t.px.toNat < s.width.toNat ∧ t.py.toNat < s.height.toNat)

/-- R204: NEXT; the test uses TILE before the step, and TILE + 1 fits 28 bits (R26). -/
def Obligations.NextAdvancesTheTile : Prop :=
  ∀ s : State, s.tile.toNat + 1 < 2 ^ 28 →
    exec .nextTile s = .next { s with
      tile := BitVec.ofNat 28 (s.tile.toNat + 1), tex := 0#4,
      seq :=
        if s.tile.toNat + 1 < (s.width.toNat / 4) * (s.height.toNat / 4) then 3#4 else 12#4 }

/-- R24 and U11 of spec/93_implementation_defined.md: no transition leaves a reserved SEQ code, so
its row stops by name in every state (log entry 13). -/
def Obligations.ReservedCodesStop : Prop :=
  ∀ s : State,
    exec .seqReserved13 s = .fault (.seqReserved 13#4) ∧
    exec .seqReserved14 s = .fault (.seqReserved 14#4) ∧
    exec .seqReserved15 s = .fault (.seqReserved 15#4)

/-- R100, R196, R231: the format-code rows where they stand: at RDBLK_R and INTERP_R they choose
the successor; while idle and at CHECK they are put to `Check`; elsewhere no unit examines them.
That a row acts by its place in the sequence is the model's choice (log entry 11), and so is the
successor for the two codes that name no format (log entry 22). -/
def Obligations.FormatRowsActWhereTheyStand : Prop :=
  ∀ s : State, ∀ q ∈ [((0#2 : BitVec 2), Instr.fmtNone), (1#2, .fmtBc4), (2#2, .fmtBc5),
      (3#2, .fmtBoth)],
    exec q.2 s = .next
      (if s.seq = 3#4 then { s with seq := if q.1 = 2#2 then 4#4 else 5#4 }
       else if s.seq = 5#4 then { s with seq := if q.1 = 2#2 then 6#4 else 7#4 }
       else if s.seq.toNat ≤ 1 then
         (if q.1 = 0#2 ∨ q.1 = 3#2 then { s with err := 1#3, seq := 0#4 }
          else if s.width = 0#16 ∨ s.height = 0#16 ∨
              s.width.toNat % 4 ≠ 0 ∨ s.height.toNat % 4 ≠ 0 then
            { s with err := 3#3, seq := 0#4 }
          else s)
       else s)

/-! ## Pixel write buffer -/

/-- R211, R212: WRPIX stores the three bytes of PIX at PIXADDR(PX, PY), R, G, B in rising order,
and every other byte of CB reads as before; the counters and the successor follow; the memory
keeps its canonical form. Outside the image it stops by name (log entry 24). -/
def Obligations.WrpixStoresOneEntry : Prop :=
  ∀ s : State,
    (s.px.toNat < s.width.toNat → s.py.toNat < s.height.toNat → s.pixcnt.toNat + 1 < 2 ^ 32 →
      let a := 3 * (s.py.toNat * s.width.toNat + s.px.toNat)
      a + 3 ≤ 3 * s.width.toNat * s.height.toNat ∧
      ∃ t, exec .wrpix s = .next t ∧
        t.cb.read a = some s.pix.r ∧ t.cb.read (a + 1) = some s.pix.g ∧
        t.cb.read (a + 2) = some s.pix.b ∧
        (∀ b, b < a ∨ a + 3 ≤ b → t.cb.read b = s.cb.read b) ∧
        (s.cb.wf = true → t.cb.wf = true) ∧
        t.pixcnt.toNat = s.pixcnt.toNat + 1 ∧
        t.tex.toNat = (if s.tex.toNat < 15 then s.tex.toNat + 1 else 15) ∧
        t.seq = (if s.tex.toNat < 15 then 8#4 else 11#4) ∧
        t = { s with cb := t.cb, pixcnt := t.pixcnt, tex := t.tex, seq := t.seq }) ∧
    (¬(s.px.toNat < s.width.toNat ∧ s.py.toNat < s.height.toNat) →
      exec .wrpix s = .fault .pixelOutsideImage)

/-- R194, R211: with both dimensions multiples of 4, every entry of the colour buffer is the entry
of exactly one texel of exactly one tile. -/
def Obligations.EveryEntryHasOneTexel : Prop :=
  ∀ w h : BitVec 16, w.toNat % 4 = 0 → h.toNat % 4 = 0 →
    (∀ t i, t < tileCount w h → i < 16 → ∃ e, e < w.toNat * h.toNat ∧ texelAddress w t i = 3 * e) ∧
    ∀ e, e < w.toNat * h.toNat →
      ∃! p : Nat × Nat, p.1 < tileCount w h ∧ p.2 < 16 ∧ texelAddress w p.1 p.2 = 3 * e

/-- The memory has one form: two canonical memories that read alike at every address are equal. -/
def Obligations.MemoriesThatReadAlikeAreEqual : Prop :=
  ∀ m m' : Memory, m.wf = true → m'.wf = true → (∀ a, m.read a = m'.read a) → m = m'

/-- R214, R215: while BUF_VALID = 0 nothing of CB reaches the host: two machines that differ in CB
alone answer any read of the buffer alike, and differ in CB alone afterwards. -/
def Obligations.HiddenBufferIsUnreadable : Prop :=
  ∀ (s : State) (m : Memory) (a n : Nat) (ms : List HostMove),
    s.bufValid = false → s.seq = 0#4 → s.env.resetIn.headD false = false →
    s.env.moves = .cbRead a n :: ms →
    ∃ t, step s = .next t ∧ t.cb = s.cb ∧ step { s with cb := m } = .next { t with cb := m }

/-! ## Rules over all instructions -/

/-- R21, R22: FMT, WIDTH and HEIGHT are written only by CONSTRUCT, and PASS only by CHECK; and no
instruction writes the environment, the stream among it (R36, R70). -/
def Obligations.ConfigurationWriters : Prop :=
  ∀ (i : Instr) (s t : State), exec i s = .next t →
    ((∀ f w h, i ≠ .construct f w h) →
      t.fmt = s.fmt ∧ t.width = s.width ∧ t.height = s.height) ∧
    (i ≠ .check → t.pass = s.pass) ∧
    t.env = s.env

/-- R23, R34: BUF_VALID rises only by FINISH and falls only by BEGIN and CONSTRUCT; CB is written
only by WRPIX. -/
def Obligations.BufferWriters : Prop :=
  ∀ (i : Instr) (s t : State), exec i s = .next t →
    (s.bufValid = false → t.bufValid = true → i = .finish) ∧
    (s.bufValid = true → t.bufValid = false →
      i = .beginDecode ∨ ∃ f w h, i = .construct f w h) ∧
    (i ≠ .wrpix → t.cb = s.cb)

/-- R28 to R30: the writers of the block, channel and staging registers. Beside the
micro-operations of those rules stand the data rows, whose meanings are the parts of them that
the code selects (log entries 8 to 12). -/
def Obligations.DatapathWriters : Prop :=
  ∀ (i : Instr) (s t : State), exec i s = .next t →
    (t.blkR ≠ s.blkR → i = .rdblkR ∨ ∃ r0 r1 ix, i = .block .red r0 r1 ix) ∧
    (t.blkG ≠ s.blkG → i = .rdblkG ∨ ∃ r0 r1 ix, i = .block .green r0 r1 ix) ∧
    (t.chR ≠ s.chR → i = .interpR ∨ ∃ lane code six, i = decodeIndex six .red lane code) ∧
    (t.chG ≠ s.chG →
      i = .interpG ∨ i = .zfill ∨ ∃ lane code six, i = decodeIndex six .green lane code) ∧
    (t.px ≠ s.px ∨ t.py ≠ s.py → i = .texxy) ∧
    (t.pix ≠ s.pix → i = .comp ∨ ∃ code, i = decodePass code)

/-- R25 to R27: the writers of the cursor and of the counters. -/
def Obligations.CounterWriters : Prop :=
  ∀ (i : Instr) (s t : State), exec i s = .next t →
    (t.cur ≠ s.cur → i = .rdblkR ∨ i = .rdblkG ∨ i = .beginDecode ∨
      (∃ f w h, i = .construct f w h) ∨ ∃ c r0 r1 ix, i = .block c r0 r1 ix) ∧
    (t.tile ≠ s.tile → i = .beginDecode ∨ i = .nextTile ∨ ∃ f w h, i = .construct f w h) ∧
    (t.tex ≠ s.tex → i = .beginDecode ∨ i = .wrpix ∨ i = .nextTile) ∧
    (t.pixcnt ≠ s.pixcnt → i = .beginDecode ∨ i = .wrpix ∨ ∃ f w h, i = .construct f w h)

/-! ## Invariants and whole decodes -/

/-- R25 to R27, R29, R38, R196, R207, R208: every step keeps a coherent state coherent. -/
def Obligations.CoherentSurvivesAStep : Prop :=
  ∀ s t : State, s.Coherent → step s = .next t → t.Coherent

/-- The reset state is coherent (R37). -/
def Obligations.ResetIsCoherent : Prop := State.reset.Coherent

/-- R38, R196, R265, R299: a coherent machine never stops: no fault and no refusal, whatever the
stream, the host's moves, the external pass and the reset input. -/
def Obligations.CoherentStatesNeverStop : Prop :=
  ∀ s : State, s.Coherent → ∃ t, step s = .next t

/-- R205, R207, R213, R234, R325, one micro-operation being one step (log entry 5): a DECODE of a legal configuration with an available pass and a
long enough stream takes 1 + 3 + NT·(51 + bpt) steps (the command and R325's count), leaves the
register values of R207, and every entry of the buffer is the pixel of R213. -/
def Obligations.DecodeWritesTheImage : Prop :=
  ∀ (s : State) (p : BitVec 2) (w : Word64) (ms : List HostMove),
    s.seq = 0#4 → s.env.resetIn = [] → s.env.moves = .csrWrite 0#3 w :: ms →
    decodeCommand w = .decode p → s.configLegal → passAvailable p s.env.hasExtPass = true →
    8 * (s.bpt * s.tiles) ≤ s.env.stream.length →
    ∃ t, Sys2Proof.core.run (4 + s.tiles * (51 + s.bpt)) s = .next t ∧
      t.seq = 0#4 ∧ t.bufValid = true ∧ t.err = 0#3 ∧ t.pass = p ∧
      t.cur.toNat = 8 * (s.bpt * s.tiles) ∧ t.tile.toNat = s.tiles ∧ t.tex = 0#4 ∧
      t.pixcnt.toNat = s.width.toNat * s.height.toNat ∧
      t.fmt = s.fmt ∧ t.width = s.width ∧ t.height = s.height ∧
      t.env = { s.env with moves := ms } ∧
      ∀ x y, x < s.width.toNat → y < s.height.toNat →
        ∃ q, imagePixel s.env.stream s.fmt s.width p s.env.hasExtPass x y = some q ∧
          t.cb.entryIs (3 * (y * s.width.toNat + x)) q

/-- R123, R234, R287: on a shorter stream the same DECODE ends, within that many steps (log entry
5), in StreamUnderrun: no buffer, and the progress registers at the block that could not be read. -/
def Obligations.ShortStreamUnderruns : Prop :=
  ∀ (s : State) (p : BitVec 2) (w : Word64) (ms : List HostMove),
    s.seq = 0#4 → s.env.resetIn = [] → s.env.moves = .csrWrite 0#3 w :: ms →
    decodeCommand w = .decode p → s.configLegal → passAvailable p s.env.hasExtPass = true →
    s.env.stream.length < 8 * (s.bpt * s.tiles) →
    ∃ k t, k ≤ 4 + s.tiles * (51 + s.bpt) ∧ Sys2Proof.core.run k s = .next t ∧
      t.seq = 0#4 ∧ t.bufValid = false ∧ t.err = 2#3 ∧ t.pass = p ∧
      t.cur.toNat = 8 * (s.env.stream.length / 8) ∧
      t.tile.toNat = s.env.stream.length / 8 / s.bpt ∧ t.tex = 0#4 ∧
      t.pixcnt.toNat = 16 * t.tile.toNat ∧
      t.fmt = s.fmt ∧ t.width = s.width ∧ t.height = s.height ∧
      t.env = { s.env with moves := ms }

/-- R197, R234 (a), R320: a DECODE that fails in CHECK leaves the buffer, the counters, PASS and
everything else as they were: ERR alone changes (beside the operand field of log entry 4), two
steps after the command (log entry 5). -/
def Obligations.RejectedDecodeKeepsTheBuffer : Prop :=
  ∀ (s : State) (p : BitVec 2) (w : Word64) (ms : List HostMove),
    s.seq = 0#4 → s.env.resetIn = [] → s.env.moves = .csrWrite 0#3 w :: ms →
    decodeCommand w = .decode p →
    (¬ s.configLegal ∨ passAvailable p s.env.hasExtPass = false) →
    ∃ e : BitVec 3, (e = 1#3 ∨ e = 3#3 ∨ e = 4#3) ∧
      Sys2Proof.core.run 2 s = .next
        { s with err := e, passSel := p, env := { s.env with moves := ms } }
end

