-- ==== Sys2Proof/Laws/Memory.lean ====
section
/-!
SUPPORT. The laws of the colour-buffer memory: every operation keeps the canonical form, a read
after a write gives the value written, and a write leaves every other address alone.
-/

namespace Sys2Proof.Machine

/-- Every listed address of a canonical memory is above one that may stand before it. -/
theorem Memory.wf_cons_iff (k : Nat) (b : Byte) (m : Memory) :
    Memory.wf ((k, b) :: m) = true ↔ (∀ p ∈ m.head?, k < p.1) ∧ Memory.wf m = true := by
  cases m with
  | nil => simp [Memory.wf]
  | cons p m => simp [Memory.wf]

/-- The first address after a write is the old first one or the one written. -/
theorem Memory.head?_write (m : Memory) (a : Nat) (b : Byte) :
    ∀ p ∈ (m.write a b).head?, p.1 = a ∨ ∃ q ∈ m.head?, p.1 = q.1 := by
  cases m with
  | nil => simp [Memory.write]
  | cons q m =>
    obtain ⟨k, c⟩ := q
    simp only [Memory.write]
    split
    · simp
    · split
      · simp
      · simp

/-- A write keeps the canonical form. -/
theorem Memory.wf_write (m : Memory) (a : Nat) (b : Byte) (h : m.wf = true) :
    (m.write a b).wf = true := by
  induction m with
  | nil => rfl
  | cons p m ih =>
    obtain ⟨k, c⟩ := p
    obtain ⟨hh, hm⟩ := (Memory.wf_cons_iff k c m).1 h
    simp only [Memory.write]
    split
    · rename_i hlt
      exact (Memory.wf_cons_iff a b _).2 ⟨by simpa using hlt, h⟩
    · split
      · rename_i _ heq
        subst heq
        exact (Memory.wf_cons_iff a b m).2 ⟨hh, hm⟩
      · refine (Memory.wf_cons_iff k c _).2 ⟨fun p hp => ?_, ih hm⟩
        rcases Memory.head?_write m a b p hp with e | ⟨q, hq, e⟩
        · omega
        · have := hh q hq
          omega

/-- Storing several bytes keeps the canonical form. -/
theorem Memory.wf_writeMany (bs : List Byte) (m : Memory) (a : Nat) (h : m.wf = true) :
    (m.writeMany a bs).wf = true := by
  induction bs generalizing m a with
  | nil => exact h
  | cons b bs ih => exact ih _ _ (Memory.wf_write m a b h)

/-- A read after a write of the same address gives the byte written. -/
theorem Memory.read_write_self (m : Memory) (a : Nat) (b : Byte) :
    (m.write a b).read a = some b := by
  induction m with
  | nil => simp [Memory.write, Memory.read]
  | cons p m ih =>
    obtain ⟨k, c⟩ := p
    simp only [Memory.write]
    split
    · simp [Memory.read]
    · split
      · simp [Memory.read]
      · rename_i h1 h2
        simp only [Memory.read, if_neg (fun e : k = a => h2 e.symm)]
        exact ih

/-- A write leaves every other address alone. -/
theorem Memory.read_write_other (m : Memory) (a a' : Nat) (b : Byte) (h : a' ≠ a) :
    (m.write a b).read a' = m.read a' := by
  induction m with
  | nil => simp [Memory.write, Memory.read, Ne.symm h]
  | cons p m ih =>
    obtain ⟨k, c⟩ := p
    simp only [Memory.write]
    split
    · simp [Memory.read, Ne.symm h]
    · split
      · rename_i _ heq
        subst heq
        simp [Memory.read, Ne.symm h]
      · simp only [Memory.read]
        split
        · rfl
        · exact ih

/-- Storing several bytes leaves every address outside them alone. -/
theorem Memory.read_writeMany_other (bs : List Byte) (m : Memory) (a a' : Nat)
    (h : a' < a ∨ a + bs.length ≤ a') : (m.writeMany a bs).read a' = m.read a' := by
  induction bs generalizing m a with
  | nil => rfl
  | cons b bs ih =>
    simp only [List.length_cons] at h
    rw [Memory.writeMany, ih _ _ (by omega), Memory.read_write_other _ _ _ _ (by omega)]

/-- Each of several stored bytes is read back. -/
theorem Memory.read_writeMany_self (bs : List Byte) (m : Memory) (a i : Nat) (h : i < bs.length) :
    (m.writeMany a bs).read (a + i) = some bs[i] := by
  induction bs generalizing m a i with
  | nil => simp at h
  | cons b bs ih =>
    rw [Memory.writeMany]
    cases i with
    | zero =>
      rw [Memory.read_writeMany_other _ _ _ _ (by omega), Nat.add_zero, Memory.read_write_self]
      rfl
    | succ i =>
      have := ih (m.write a b) (a + 1) i (by simpa using h)
      rw [show a + (i + 1) = a + 1 + i by omega, this]
      rfl

/-- The memory of the reset state has the canonical form. -/
theorem State.reset_cb_wf : State.reset.cb.wf = true := rfl

end Sys2Proof.Machine
end

