-- ==== Sys2Proof/Laws/State.lean ====
section
/-!
SUPPORT. What each named update of the state leaves in each field, so that no proof unfolds a record
update; and the accessors of the block and channel registers over those updates.
-/

namespace Sys2Proof.Machine

/-! ### `SEQ <- code` -/

@[simp] theorem State.setSeq_fmt (s : State) (code : BitVec 4) :
    (s.setSeq code).fmt = s.fmt := rfl

@[simp] theorem State.setSeq_width (s : State) (code : BitVec 4) :
    (s.setSeq code).width = s.width := rfl

@[simp] theorem State.setSeq_height (s : State) (code : BitVec 4) :
    (s.setSeq code).height = s.height := rfl

@[simp] theorem State.setSeq_pass (s : State) (code : BitVec 4) :
    (s.setSeq code).pass = s.pass := rfl

@[simp] theorem State.setSeq_bufValid (s : State) (code : BitVec 4) :
    (s.setSeq code).bufValid = s.bufValid := rfl

@[simp] theorem State.setSeq_err (s : State) (code : BitVec 4) :
    (s.setSeq code).err = s.err := rfl

@[simp] theorem State.setSeq_seq (s : State) (code : BitVec 4) :
    (s.setSeq code).seq = code := rfl

@[simp] theorem State.setSeq_cur (s : State) (code : BitVec 4) :
    (s.setSeq code).cur = s.cur := rfl

@[simp] theorem State.setSeq_tile (s : State) (code : BitVec 4) :
    (s.setSeq code).tile = s.tile := rfl

@[simp] theorem State.setSeq_tex (s : State) (code : BitVec 4) :
    (s.setSeq code).tex = s.tex := rfl

@[simp] theorem State.setSeq_pixcnt (s : State) (code : BitVec 4) :
    (s.setSeq code).pixcnt = s.pixcnt := rfl

@[simp] theorem State.setSeq_blkR (s : State) (code : BitVec 4) :
    (s.setSeq code).blkR = s.blkR := rfl

@[simp] theorem State.setSeq_blkG (s : State) (code : BitVec 4) :
    (s.setSeq code).blkG = s.blkG := rfl

@[simp] theorem State.setSeq_chR (s : State) (code : BitVec 4) :
    (s.setSeq code).chR = s.chR := rfl

@[simp] theorem State.setSeq_chG (s : State) (code : BitVec 4) :
    (s.setSeq code).chG = s.chG := rfl

@[simp] theorem State.setSeq_px (s : State) (code : BitVec 4) :
    (s.setSeq code).px = s.px := rfl

@[simp] theorem State.setSeq_py (s : State) (code : BitVec 4) :
    (s.setSeq code).py = s.py := rfl

@[simp] theorem State.setSeq_pix (s : State) (code : BitVec 4) :
    (s.setSeq code).pix = s.pix := rfl

@[simp] theorem State.setSeq_cb (s : State) (code : BitVec 4) :
    (s.setSeq code).cb = s.cb := rfl

@[simp] theorem State.setSeq_passSel (s : State) (code : BitVec 4) :
    (s.setSeq code).passSel = s.passSel := rfl

@[simp] theorem State.setSeq_env (s : State) (code : BitVec 4) :
    (s.setSeq code).env = s.env := rfl

/-! ### the failure entry (R286) -/

@[simp] theorem State.raise_fmt (s : State) (f : Failure) :
    (s.raise f).fmt = s.fmt := rfl

@[simp] theorem State.raise_width (s : State) (f : Failure) :
    (s.raise f).width = s.width := rfl

@[simp] theorem State.raise_height (s : State) (f : Failure) :
    (s.raise f).height = s.height := rfl

@[simp] theorem State.raise_pass (s : State) (f : Failure) :
    (s.raise f).pass = s.pass := rfl

@[simp] theorem State.raise_bufValid (s : State) (f : Failure) :
    (s.raise f).bufValid = s.bufValid := rfl

@[simp] theorem State.raise_err (s : State) (f : Failure) :
    (s.raise f).err = failureCode f := rfl

@[simp] theorem State.raise_seq (s : State) (f : Failure) :
    (s.raise f).seq = seqIdle := rfl

@[simp] theorem State.raise_cur (s : State) (f : Failure) :
    (s.raise f).cur = s.cur := rfl

@[simp] theorem State.raise_tile (s : State) (f : Failure) :
    (s.raise f).tile = s.tile := rfl

@[simp] theorem State.raise_tex (s : State) (f : Failure) :
    (s.raise f).tex = s.tex := rfl

@[simp] theorem State.raise_pixcnt (s : State) (f : Failure) :
    (s.raise f).pixcnt = s.pixcnt := rfl

@[simp] theorem State.raise_blkR (s : State) (f : Failure) :
    (s.raise f).blkR = s.blkR := rfl

@[simp] theorem State.raise_blkG (s : State) (f : Failure) :
    (s.raise f).blkG = s.blkG := rfl

@[simp] theorem State.raise_chR (s : State) (f : Failure) :
    (s.raise f).chR = s.chR := rfl

@[simp] theorem State.raise_chG (s : State) (f : Failure) :
    (s.raise f).chG = s.chG := rfl

@[simp] theorem State.raise_px (s : State) (f : Failure) :
    (s.raise f).px = s.px := rfl

@[simp] theorem State.raise_py (s : State) (f : Failure) :
    (s.raise f).py = s.py := rfl

@[simp] theorem State.raise_pix (s : State) (f : Failure) :
    (s.raise f).pix = s.pix := rfl

@[simp] theorem State.raise_cb (s : State) (f : Failure) :
    (s.raise f).cb = s.cb := rfl

@[simp] theorem State.raise_passSel (s : State) (f : Failure) :
    (s.raise f).passSel = s.passSel := rfl

@[simp] theorem State.raise_env (s : State) (f : Failure) :
    (s.raise f).env = s.env := rfl

/-! ### `PIX <- p` -/

@[simp] theorem State.setPix_fmt (s : State) (p : Pixel) :
    (s.setPix p).fmt = s.fmt := rfl

@[simp] theorem State.setPix_width (s : State) (p : Pixel) :
    (s.setPix p).width = s.width := rfl

@[simp] theorem State.setPix_height (s : State) (p : Pixel) :
    (s.setPix p).height = s.height := rfl

@[simp] theorem State.setPix_pass (s : State) (p : Pixel) :
    (s.setPix p).pass = s.pass := rfl

@[simp] theorem State.setPix_bufValid (s : State) (p : Pixel) :
    (s.setPix p).bufValid = s.bufValid := rfl

@[simp] theorem State.setPix_err (s : State) (p : Pixel) :
    (s.setPix p).err = s.err := rfl

@[simp] theorem State.setPix_seq (s : State) (p : Pixel) :
    (s.setPix p).seq = s.seq := rfl

@[simp] theorem State.setPix_cur (s : State) (p : Pixel) :
    (s.setPix p).cur = s.cur := rfl

@[simp] theorem State.setPix_tile (s : State) (p : Pixel) :
    (s.setPix p).tile = s.tile := rfl

@[simp] theorem State.setPix_tex (s : State) (p : Pixel) :
    (s.setPix p).tex = s.tex := rfl

@[simp] theorem State.setPix_pixcnt (s : State) (p : Pixel) :
    (s.setPix p).pixcnt = s.pixcnt := rfl

@[simp] theorem State.setPix_blkR (s : State) (p : Pixel) :
    (s.setPix p).blkR = s.blkR := rfl

@[simp] theorem State.setPix_blkG (s : State) (p : Pixel) :
    (s.setPix p).blkG = s.blkG := rfl

@[simp] theorem State.setPix_chR (s : State) (p : Pixel) :
    (s.setPix p).chR = s.chR := rfl

@[simp] theorem State.setPix_chG (s : State) (p : Pixel) :
    (s.setPix p).chG = s.chG := rfl

@[simp] theorem State.setPix_px (s : State) (p : Pixel) :
    (s.setPix p).px = s.px := rfl

@[simp] theorem State.setPix_py (s : State) (p : Pixel) :
    (s.setPix p).py = s.py := rfl

@[simp] theorem State.setPix_pix (s : State) (p : Pixel) :
    (s.setPix p).pix = p := rfl

@[simp] theorem State.setPix_cb (s : State) (p : Pixel) :
    (s.setPix p).cb = s.cb := rfl

@[simp] theorem State.setPix_passSel (s : State) (p : Pixel) :
    (s.setPix p).passSel = s.passSel := rfl

@[simp] theorem State.setPix_env (s : State) (p : Pixel) :
    (s.setPix p).env = s.env := rfl

/-! ### `BLK[c] <- b` -/

@[simp] theorem State.setBlk_fmt (s : State) (c : Chan) (b : Block) :
    (s.setBlk c b).fmt = s.fmt := by cases c <;> rfl

@[simp] theorem State.setBlk_width (s : State) (c : Chan) (b : Block) :
    (s.setBlk c b).width = s.width := by cases c <;> rfl

@[simp] theorem State.setBlk_height (s : State) (c : Chan) (b : Block) :
    (s.setBlk c b).height = s.height := by cases c <;> rfl

@[simp] theorem State.setBlk_pass (s : State) (c : Chan) (b : Block) :
    (s.setBlk c b).pass = s.pass := by cases c <;> rfl

@[simp] theorem State.setBlk_bufValid (s : State) (c : Chan) (b : Block) :
    (s.setBlk c b).bufValid = s.bufValid := by cases c <;> rfl

@[simp] theorem State.setBlk_err (s : State) (c : Chan) (b : Block) :
    (s.setBlk c b).err = s.err := by cases c <;> rfl

@[simp] theorem State.setBlk_seq (s : State) (c : Chan) (b : Block) :
    (s.setBlk c b).seq = s.seq := by cases c <;> rfl

@[simp] theorem State.setBlk_cur (s : State) (c : Chan) (b : Block) :
    (s.setBlk c b).cur = s.cur := by cases c <;> rfl

@[simp] theorem State.setBlk_tile (s : State) (c : Chan) (b : Block) :
    (s.setBlk c b).tile = s.tile := by cases c <;> rfl

@[simp] theorem State.setBlk_tex (s : State) (c : Chan) (b : Block) :
    (s.setBlk c b).tex = s.tex := by cases c <;> rfl

@[simp] theorem State.setBlk_pixcnt (s : State) (c : Chan) (b : Block) :
    (s.setBlk c b).pixcnt = s.pixcnt := by cases c <;> rfl

@[simp] theorem State.setBlk_chR (s : State) (c : Chan) (b : Block) :
    (s.setBlk c b).chR = s.chR := by cases c <;> rfl

@[simp] theorem State.setBlk_chG (s : State) (c : Chan) (b : Block) :
    (s.setBlk c b).chG = s.chG := by cases c <;> rfl

@[simp] theorem State.setBlk_px (s : State) (c : Chan) (b : Block) :
    (s.setBlk c b).px = s.px := by cases c <;> rfl

@[simp] theorem State.setBlk_py (s : State) (c : Chan) (b : Block) :
    (s.setBlk c b).py = s.py := by cases c <;> rfl

@[simp] theorem State.setBlk_pix (s : State) (c : Chan) (b : Block) :
    (s.setBlk c b).pix = s.pix := by cases c <;> rfl

@[simp] theorem State.setBlk_cb (s : State) (c : Chan) (b : Block) :
    (s.setBlk c b).cb = s.cb := by cases c <;> rfl

@[simp] theorem State.setBlk_passSel (s : State) (c : Chan) (b : Block) :
    (s.setBlk c b).passSel = s.passSel := by cases c <;> rfl

@[simp] theorem State.setBlk_env (s : State) (c : Chan) (b : Block) :
    (s.setBlk c b).env = s.env := by cases c <;> rfl

/-! ### `CH[c] <- v` -/

@[simp] theorem State.setCh_fmt (s : State) (c : Chan) (v : Vector F32 16) :
    (s.setCh c v).fmt = s.fmt := by cases c <;> rfl

@[simp] theorem State.setCh_width (s : State) (c : Chan) (v : Vector F32 16) :
    (s.setCh c v).width = s.width := by cases c <;> rfl

@[simp] theorem State.setCh_height (s : State) (c : Chan) (v : Vector F32 16) :
    (s.setCh c v).height = s.height := by cases c <;> rfl

@[simp] theorem State.setCh_pass (s : State) (c : Chan) (v : Vector F32 16) :
    (s.setCh c v).pass = s.pass := by cases c <;> rfl

@[simp] theorem State.setCh_bufValid (s : State) (c : Chan) (v : Vector F32 16) :
    (s.setCh c v).bufValid = s.bufValid := by cases c <;> rfl

@[simp] theorem State.setCh_err (s : State) (c : Chan) (v : Vector F32 16) :
    (s.setCh c v).err = s.err := by cases c <;> rfl

@[simp] theorem State.setCh_seq (s : State) (c : Chan) (v : Vector F32 16) :
    (s.setCh c v).seq = s.seq := by cases c <;> rfl

@[simp] theorem State.setCh_cur (s : State) (c : Chan) (v : Vector F32 16) :
    (s.setCh c v).cur = s.cur := by cases c <;> rfl

@[simp] theorem State.setCh_tile (s : State) (c : Chan) (v : Vector F32 16) :
    (s.setCh c v).tile = s.tile := by cases c <;> rfl

@[simp] theorem State.setCh_tex (s : State) (c : Chan) (v : Vector F32 16) :
    (s.setCh c v).tex = s.tex := by cases c <;> rfl

@[simp] theorem State.setCh_pixcnt (s : State) (c : Chan) (v : Vector F32 16) :
    (s.setCh c v).pixcnt = s.pixcnt := by cases c <;> rfl

@[simp] theorem State.setCh_blkR (s : State) (c : Chan) (v : Vector F32 16) :
    (s.setCh c v).blkR = s.blkR := by cases c <;> rfl

@[simp] theorem State.setCh_blkG (s : State) (c : Chan) (v : Vector F32 16) :
    (s.setCh c v).blkG = s.blkG := by cases c <;> rfl

@[simp] theorem State.setCh_px (s : State) (c : Chan) (v : Vector F32 16) :
    (s.setCh c v).px = s.px := by cases c <;> rfl

@[simp] theorem State.setCh_py (s : State) (c : Chan) (v : Vector F32 16) :
    (s.setCh c v).py = s.py := by cases c <;> rfl

@[simp] theorem State.setCh_pix (s : State) (c : Chan) (v : Vector F32 16) :
    (s.setCh c v).pix = s.pix := by cases c <;> rfl

@[simp] theorem State.setCh_cb (s : State) (c : Chan) (v : Vector F32 16) :
    (s.setCh c v).cb = s.cb := by cases c <;> rfl

@[simp] theorem State.setCh_passSel (s : State) (c : Chan) (v : Vector F32 16) :
    (s.setCh c v).passSel = s.passSel := by cases c <;> rfl

@[simp] theorem State.setCh_env (s : State) (c : Chan) (v : Vector F32 16) :
    (s.setCh c v).env = s.env := by cases c <;> rfl

/-! ### `CH[c][i] <- v` -/

@[simp] theorem State.setLane_fmt (s : State) (c : Chan) (i : BitVec 4) (v : F32) :
    (s.setLane c i v).fmt = s.fmt := by cases c <;> rfl

@[simp] theorem State.setLane_width (s : State) (c : Chan) (i : BitVec 4) (v : F32) :
    (s.setLane c i v).width = s.width := by cases c <;> rfl

@[simp] theorem State.setLane_height (s : State) (c : Chan) (i : BitVec 4) (v : F32) :
    (s.setLane c i v).height = s.height := by cases c <;> rfl

@[simp] theorem State.setLane_pass (s : State) (c : Chan) (i : BitVec 4) (v : F32) :
    (s.setLane c i v).pass = s.pass := by cases c <;> rfl

@[simp] theorem State.setLane_bufValid (s : State) (c : Chan) (i : BitVec 4) (v : F32) :
    (s.setLane c i v).bufValid = s.bufValid := by cases c <;> rfl

@[simp] theorem State.setLane_err (s : State) (c : Chan) (i : BitVec 4) (v : F32) :
    (s.setLane c i v).err = s.err := by cases c <;> rfl

@[simp] theorem State.setLane_seq (s : State) (c : Chan) (i : BitVec 4) (v : F32) :
    (s.setLane c i v).seq = s.seq := by cases c <;> rfl

@[simp] theorem State.setLane_cur (s : State) (c : Chan) (i : BitVec 4) (v : F32) :
    (s.setLane c i v).cur = s.cur := by cases c <;> rfl

@[simp] theorem State.setLane_tile (s : State) (c : Chan) (i : BitVec 4) (v : F32) :
    (s.setLane c i v).tile = s.tile := by cases c <;> rfl

@[simp] theorem State.setLane_tex (s : State) (c : Chan) (i : BitVec 4) (v : F32) :
    (s.setLane c i v).tex = s.tex := by cases c <;> rfl

@[simp] theorem State.setLane_pixcnt (s : State) (c : Chan) (i : BitVec 4) (v : F32) :
    (s.setLane c i v).pixcnt = s.pixcnt := by cases c <;> rfl

@[simp] theorem State.setLane_blkR (s : State) (c : Chan) (i : BitVec 4) (v : F32) :
    (s.setLane c i v).blkR = s.blkR := by cases c <;> rfl

@[simp] theorem State.setLane_blkG (s : State) (c : Chan) (i : BitVec 4) (v : F32) :
    (s.setLane c i v).blkG = s.blkG := by cases c <;> rfl

@[simp] theorem State.setLane_px (s : State) (c : Chan) (i : BitVec 4) (v : F32) :
    (s.setLane c i v).px = s.px := by cases c <;> rfl

@[simp] theorem State.setLane_py (s : State) (c : Chan) (i : BitVec 4) (v : F32) :
    (s.setLane c i v).py = s.py := by cases c <;> rfl

@[simp] theorem State.setLane_pix (s : State) (c : Chan) (i : BitVec 4) (v : F32) :
    (s.setLane c i v).pix = s.pix := by cases c <;> rfl

@[simp] theorem State.setLane_cb (s : State) (c : Chan) (i : BitVec 4) (v : F32) :
    (s.setLane c i v).cb = s.cb := by cases c <;> rfl

@[simp] theorem State.setLane_passSel (s : State) (c : Chan) (i : BitVec 4) (v : F32) :
    (s.setLane c i v).passSel = s.passSel := by cases c <;> rfl

@[simp] theorem State.setLane_env (s : State) (c : Chan) (i : BitVec 4) (v : F32) :
    (s.setLane c i v).env = s.env := by cases c <;> rfl

/-! ### a block read (R121) -/

@[simp] theorem State.loadBlock_fmt (s : State) (c : Chan) (b : Block) :
    (s.loadBlock c b).fmt = s.fmt := by cases c <;> rfl

@[simp] theorem State.loadBlock_width (s : State) (c : Chan) (b : Block) :
    (s.loadBlock c b).width = s.width := by cases c <;> rfl

@[simp] theorem State.loadBlock_height (s : State) (c : Chan) (b : Block) :
    (s.loadBlock c b).height = s.height := by cases c <;> rfl

@[simp] theorem State.loadBlock_pass (s : State) (c : Chan) (b : Block) :
    (s.loadBlock c b).pass = s.pass := by cases c <;> rfl

@[simp] theorem State.loadBlock_bufValid (s : State) (c : Chan) (b : Block) :
    (s.loadBlock c b).bufValid = s.bufValid := by cases c <;> rfl

@[simp] theorem State.loadBlock_err (s : State) (c : Chan) (b : Block) :
    (s.loadBlock c b).err = s.err := by cases c <;> rfl

@[simp] theorem State.loadBlock_seq (s : State) (c : Chan) (b : Block) :
    (s.loadBlock c b).seq = afterBlock c s.fmt := by cases c <;> rfl

@[simp] theorem State.loadBlock_cur (s : State) (c : Chan) (b : Block) :
    (s.loadBlock c b).cur = fit 32 (s.cur.toNat + 8) := by cases c <;> rfl

@[simp] theorem State.loadBlock_tile (s : State) (c : Chan) (b : Block) :
    (s.loadBlock c b).tile = s.tile := by cases c <;> rfl

@[simp] theorem State.loadBlock_tex (s : State) (c : Chan) (b : Block) :
    (s.loadBlock c b).tex = s.tex := by cases c <;> rfl

@[simp] theorem State.loadBlock_pixcnt (s : State) (c : Chan) (b : Block) :
    (s.loadBlock c b).pixcnt = s.pixcnt := by cases c <;> rfl

@[simp] theorem State.loadBlock_chR (s : State) (c : Chan) (b : Block) :
    (s.loadBlock c b).chR = s.chR := by cases c <;> rfl

@[simp] theorem State.loadBlock_chG (s : State) (c : Chan) (b : Block) :
    (s.loadBlock c b).chG = s.chG := by cases c <;> rfl

@[simp] theorem State.loadBlock_px (s : State) (c : Chan) (b : Block) :
    (s.loadBlock c b).px = s.px := by cases c <;> rfl

@[simp] theorem State.loadBlock_py (s : State) (c : Chan) (b : Block) :
    (s.loadBlock c b).py = s.py := by cases c <;> rfl

@[simp] theorem State.loadBlock_pix (s : State) (c : Chan) (b : Block) :
    (s.loadBlock c b).pix = s.pix := by cases c <;> rfl

@[simp] theorem State.loadBlock_cb (s : State) (c : Chan) (b : Block) :
    (s.loadBlock c b).cb = s.cb := by cases c <;> rfl

@[simp] theorem State.loadBlock_passSel (s : State) (c : Chan) (b : Block) :
    (s.loadBlock c b).passSel = s.passSel := by cases c <;> rfl

@[simp] theorem State.loadBlock_env (s : State) (c : Chan) (b : Block) :
    (s.loadBlock c b).env = s.env := by cases c <;> rfl

/-! ### the latches of CONSTRUCT (R232) -/

@[simp] theorem State.latchConfig_fmt (s : State) (f : BitVec 2) (w h : BitVec 16) :
    (s.latchConfig f w h).fmt = f := rfl

@[simp] theorem State.latchConfig_width (s : State) (f : BitVec 2) (w h : BitVec 16) :
    (s.latchConfig f w h).width = w := rfl

@[simp] theorem State.latchConfig_height (s : State) (f : BitVec 2) (w h : BitVec 16) :
    (s.latchConfig f w h).height = h := rfl

@[simp] theorem State.latchConfig_pass (s : State) (f : BitVec 2) (w h : BitVec 16) :
    (s.latchConfig f w h).pass = s.pass := rfl

@[simp] theorem State.latchConfig_bufValid (s : State) (f : BitVec 2) (w h : BitVec 16) :
    (s.latchConfig f w h).bufValid = false := rfl

@[simp] theorem State.latchConfig_err (s : State) (f : BitVec 2) (w h : BitVec 16) :
    (s.latchConfig f w h).err = s.err := rfl

@[simp] theorem State.latchConfig_seq (s : State) (f : BitVec 2) (w h : BitVec 16) :
    (s.latchConfig f w h).seq = s.seq := rfl

@[simp] theorem State.latchConfig_cur (s : State) (f : BitVec 2) (w h : BitVec 16) :
    (s.latchConfig f w h).cur = 0#32 := rfl

@[simp] theorem State.latchConfig_tile (s : State) (f : BitVec 2) (w h : BitVec 16) :
    (s.latchConfig f w h).tile = 0#28 := rfl

@[simp] theorem State.latchConfig_tex (s : State) (f : BitVec 2) (w h : BitVec 16) :
    (s.latchConfig f w h).tex = s.tex := rfl

@[simp] theorem State.latchConfig_pixcnt (s : State) (f : BitVec 2) (w h : BitVec 16) :
    (s.latchConfig f w h).pixcnt = 0#32 := rfl

@[simp] theorem State.latchConfig_blkR (s : State) (f : BitVec 2) (w h : BitVec 16) :
    (s.latchConfig f w h).blkR = s.blkR := rfl

@[simp] theorem State.latchConfig_blkG (s : State) (f : BitVec 2) (w h : BitVec 16) :
    (s.latchConfig f w h).blkG = s.blkG := rfl

@[simp] theorem State.latchConfig_chR (s : State) (f : BitVec 2) (w h : BitVec 16) :
    (s.latchConfig f w h).chR = s.chR := rfl

@[simp] theorem State.latchConfig_chG (s : State) (f : BitVec 2) (w h : BitVec 16) :
    (s.latchConfig f w h).chG = s.chG := rfl

@[simp] theorem State.latchConfig_px (s : State) (f : BitVec 2) (w h : BitVec 16) :
    (s.latchConfig f w h).px = s.px := rfl

@[simp] theorem State.latchConfig_py (s : State) (f : BitVec 2) (w h : BitVec 16) :
    (s.latchConfig f w h).py = s.py := rfl

@[simp] theorem State.latchConfig_pix (s : State) (f : BitVec 2) (w h : BitVec 16) :
    (s.latchConfig f w h).pix = s.pix := rfl

@[simp] theorem State.latchConfig_cb (s : State) (f : BitVec 2) (w h : BitVec 16) :
    (s.latchConfig f w h).cb = s.cb := rfl

@[simp] theorem State.latchConfig_passSel (s : State) (f : BitVec 2) (w h : BitVec 16) :
    (s.latchConfig f w h).passSel = s.passSel := rfl

@[simp] theorem State.latchConfig_env (s : State) (f : BitVec 2) (w h : BitVec 16) :
    (s.latchConfig f w h).env = s.env := rfl

/-! ### the start of DECODE (R23, R234) -/

@[simp] theorem State.startDecode_fmt (s : State) (p : BitVec 2) :
    (s.startDecode p).fmt = s.fmt := rfl

@[simp] theorem State.startDecode_width (s : State) (p : BitVec 2) :
    (s.startDecode p).width = s.width := rfl

@[simp] theorem State.startDecode_height (s : State) (p : BitVec 2) :
    (s.startDecode p).height = s.height := rfl

@[simp] theorem State.startDecode_pass (s : State) (p : BitVec 2) :
    (s.startDecode p).pass = s.pass := rfl

@[simp] theorem State.startDecode_bufValid (s : State) (p : BitVec 2) :
    (s.startDecode p).bufValid = s.bufValid := rfl

@[simp] theorem State.startDecode_err (s : State) (p : BitVec 2) :
    (s.startDecode p).err = 0#3 := rfl

@[simp] theorem State.startDecode_seq (s : State) (p : BitVec 2) :
    (s.startDecode p).seq = seqCheck := rfl

@[simp] theorem State.startDecode_cur (s : State) (p : BitVec 2) :
    (s.startDecode p).cur = s.cur := rfl

@[simp] theorem State.startDecode_tile (s : State) (p : BitVec 2) :
    (s.startDecode p).tile = s.tile := rfl

@[simp] theorem State.startDecode_tex (s : State) (p : BitVec 2) :
    (s.startDecode p).tex = s.tex := rfl

@[simp] theorem State.startDecode_pixcnt (s : State) (p : BitVec 2) :
    (s.startDecode p).pixcnt = s.pixcnt := rfl

@[simp] theorem State.startDecode_blkR (s : State) (p : BitVec 2) :
    (s.startDecode p).blkR = s.blkR := rfl

@[simp] theorem State.startDecode_blkG (s : State) (p : BitVec 2) :
    (s.startDecode p).blkG = s.blkG := rfl

@[simp] theorem State.startDecode_chR (s : State) (p : BitVec 2) :
    (s.startDecode p).chR = s.chR := rfl

@[simp] theorem State.startDecode_chG (s : State) (p : BitVec 2) :
    (s.startDecode p).chG = s.chG := rfl

@[simp] theorem State.startDecode_px (s : State) (p : BitVec 2) :
    (s.startDecode p).px = s.px := rfl

@[simp] theorem State.startDecode_py (s : State) (p : BitVec 2) :
    (s.startDecode p).py = s.py := rfl

@[simp] theorem State.startDecode_pix (s : State) (p : BitVec 2) :
    (s.startDecode p).pix = s.pix := rfl

@[simp] theorem State.startDecode_cb (s : State) (p : BitVec 2) :
    (s.startDecode p).cb = s.cb := rfl

@[simp] theorem State.startDecode_passSel (s : State) (p : BitVec 2) :
    (s.startDecode p).passSel = p := rfl

@[simp] theorem State.startDecode_env (s : State) (p : BitVec 2) :
    (s.startDecode p).env = s.env := rfl

/-! ### the reset input's level is used up -/

@[simp] theorem State.tick_fmt (s : State) :
    (s.tick).fmt = s.fmt := rfl

@[simp] theorem State.tick_width (s : State) :
    (s.tick).width = s.width := rfl

@[simp] theorem State.tick_height (s : State) :
    (s.tick).height = s.height := rfl

@[simp] theorem State.tick_pass (s : State) :
    (s.tick).pass = s.pass := rfl

@[simp] theorem State.tick_bufValid (s : State) :
    (s.tick).bufValid = s.bufValid := rfl

@[simp] theorem State.tick_err (s : State) :
    (s.tick).err = s.err := rfl

@[simp] theorem State.tick_seq (s : State) :
    (s.tick).seq = s.seq := rfl

@[simp] theorem State.tick_cur (s : State) :
    (s.tick).cur = s.cur := rfl

@[simp] theorem State.tick_tile (s : State) :
    (s.tick).tile = s.tile := rfl

@[simp] theorem State.tick_tex (s : State) :
    (s.tick).tex = s.tex := rfl

@[simp] theorem State.tick_pixcnt (s : State) :
    (s.tick).pixcnt = s.pixcnt := rfl

@[simp] theorem State.tick_blkR (s : State) :
    (s.tick).blkR = s.blkR := rfl

@[simp] theorem State.tick_blkG (s : State) :
    (s.tick).blkG = s.blkG := rfl

@[simp] theorem State.tick_chR (s : State) :
    (s.tick).chR = s.chR := rfl

@[simp] theorem State.tick_chG (s : State) :
    (s.tick).chG = s.chG := rfl

@[simp] theorem State.tick_px (s : State) :
    (s.tick).px = s.px := rfl

@[simp] theorem State.tick_py (s : State) :
    (s.tick).py = s.py := rfl

@[simp] theorem State.tick_pix (s : State) :
    (s.tick).pix = s.pix := rfl

@[simp] theorem State.tick_cb (s : State) :
    (s.tick).cb = s.cb := rfl

@[simp] theorem State.tick_passSel (s : State) :
    (s.tick).passSel = s.passSel := rfl

@[simp] theorem State.tick_env (s : State) :
    (s.tick).env = { s.env with resetIn := s.env.resetIn.tail } := rfl

/-! ### the host's pending moves -/

@[simp] theorem State.withMoves_fmt (s : State) (ms : List HostMove) :
    (s.withMoves ms).fmt = s.fmt := rfl

@[simp] theorem State.withMoves_width (s : State) (ms : List HostMove) :
    (s.withMoves ms).width = s.width := rfl

@[simp] theorem State.withMoves_height (s : State) (ms : List HostMove) :
    (s.withMoves ms).height = s.height := rfl

@[simp] theorem State.withMoves_pass (s : State) (ms : List HostMove) :
    (s.withMoves ms).pass = s.pass := rfl

@[simp] theorem State.withMoves_bufValid (s : State) (ms : List HostMove) :
    (s.withMoves ms).bufValid = s.bufValid := rfl

@[simp] theorem State.withMoves_err (s : State) (ms : List HostMove) :
    (s.withMoves ms).err = s.err := rfl

@[simp] theorem State.withMoves_seq (s : State) (ms : List HostMove) :
    (s.withMoves ms).seq = s.seq := rfl

@[simp] theorem State.withMoves_cur (s : State) (ms : List HostMove) :
    (s.withMoves ms).cur = s.cur := rfl

@[simp] theorem State.withMoves_tile (s : State) (ms : List HostMove) :
    (s.withMoves ms).tile = s.tile := rfl

@[simp] theorem State.withMoves_tex (s : State) (ms : List HostMove) :
    (s.withMoves ms).tex = s.tex := rfl

@[simp] theorem State.withMoves_pixcnt (s : State) (ms : List HostMove) :
    (s.withMoves ms).pixcnt = s.pixcnt := rfl

@[simp] theorem State.withMoves_blkR (s : State) (ms : List HostMove) :
    (s.withMoves ms).blkR = s.blkR := rfl

@[simp] theorem State.withMoves_blkG (s : State) (ms : List HostMove) :
    (s.withMoves ms).blkG = s.blkG := rfl

@[simp] theorem State.withMoves_chR (s : State) (ms : List HostMove) :
    (s.withMoves ms).chR = s.chR := rfl

@[simp] theorem State.withMoves_chG (s : State) (ms : List HostMove) :
    (s.withMoves ms).chG = s.chG := rfl

@[simp] theorem State.withMoves_px (s : State) (ms : List HostMove) :
    (s.withMoves ms).px = s.px := rfl

@[simp] theorem State.withMoves_py (s : State) (ms : List HostMove) :
    (s.withMoves ms).py = s.py := rfl

@[simp] theorem State.withMoves_pix (s : State) (ms : List HostMove) :
    (s.withMoves ms).pix = s.pix := rfl

@[simp] theorem State.withMoves_cb (s : State) (ms : List HostMove) :
    (s.withMoves ms).cb = s.cb := rfl

@[simp] theorem State.withMoves_passSel (s : State) (ms : List HostMove) :
    (s.withMoves ms).passSel = s.passSel := rfl

@[simp] theorem State.withMoves_env (s : State) (ms : List HostMove) :
    (s.withMoves ms).env = { s.env with moves := ms } := rfl

/-! ### a host read returns -/

@[simp] theorem State.reply_fmt (s : State) (r : Reply) :
    (s.reply r).fmt = s.fmt := rfl

@[simp] theorem State.reply_width (s : State) (r : Reply) :
    (s.reply r).width = s.width := rfl

@[simp] theorem State.reply_height (s : State) (r : Reply) :
    (s.reply r).height = s.height := rfl

@[simp] theorem State.reply_pass (s : State) (r : Reply) :
    (s.reply r).pass = s.pass := rfl

@[simp] theorem State.reply_bufValid (s : State) (r : Reply) :
    (s.reply r).bufValid = s.bufValid := rfl

@[simp] theorem State.reply_err (s : State) (r : Reply) :
    (s.reply r).err = s.err := rfl

@[simp] theorem State.reply_seq (s : State) (r : Reply) :
    (s.reply r).seq = s.seq := rfl

@[simp] theorem State.reply_cur (s : State) (r : Reply) :
    (s.reply r).cur = s.cur := rfl

@[simp] theorem State.reply_tile (s : State) (r : Reply) :
    (s.reply r).tile = s.tile := rfl

@[simp] theorem State.reply_tex (s : State) (r : Reply) :
    (s.reply r).tex = s.tex := rfl

@[simp] theorem State.reply_pixcnt (s : State) (r : Reply) :
    (s.reply r).pixcnt = s.pixcnt := rfl

@[simp] theorem State.reply_blkR (s : State) (r : Reply) :
    (s.reply r).blkR = s.blkR := rfl

@[simp] theorem State.reply_blkG (s : State) (r : Reply) :
    (s.reply r).blkG = s.blkG := rfl

@[simp] theorem State.reply_chR (s : State) (r : Reply) :
    (s.reply r).chR = s.chR := rfl

@[simp] theorem State.reply_chG (s : State) (r : Reply) :
    (s.reply r).chG = s.chG := rfl

@[simp] theorem State.reply_px (s : State) (r : Reply) :
    (s.reply r).px = s.px := rfl

@[simp] theorem State.reply_py (s : State) (r : Reply) :
    (s.reply r).py = s.py := rfl

@[simp] theorem State.reply_pix (s : State) (r : Reply) :
    (s.reply r).pix = s.pix := rfl

@[simp] theorem State.reply_cb (s : State) (r : Reply) :
    (s.reply r).cb = s.cb := rfl

@[simp] theorem State.reply_passSel (s : State) (r : Reply) :
    (s.reply r).passSel = s.passSel := rfl

@[simp] theorem State.reply_env (s : State) (r : Reply) :
    (s.reply r).env = { s.env with replies := s.env.replies ++ [r] } := rfl

/-! ### the environment's stream -/

@[simp] theorem State.withStream_fmt (s : State) (bytes : List Byte) :
    (s.withStream bytes).fmt = s.fmt := rfl

@[simp] theorem State.withStream_width (s : State) (bytes : List Byte) :
    (s.withStream bytes).width = s.width := rfl

@[simp] theorem State.withStream_height (s : State) (bytes : List Byte) :
    (s.withStream bytes).height = s.height := rfl

@[simp] theorem State.withStream_pass (s : State) (bytes : List Byte) :
    (s.withStream bytes).pass = s.pass := rfl

@[simp] theorem State.withStream_bufValid (s : State) (bytes : List Byte) :
    (s.withStream bytes).bufValid = s.bufValid := rfl

@[simp] theorem State.withStream_err (s : State) (bytes : List Byte) :
    (s.withStream bytes).err = s.err := rfl

@[simp] theorem State.withStream_seq (s : State) (bytes : List Byte) :
    (s.withStream bytes).seq = s.seq := rfl

@[simp] theorem State.withStream_cur (s : State) (bytes : List Byte) :
    (s.withStream bytes).cur = s.cur := rfl

@[simp] theorem State.withStream_tile (s : State) (bytes : List Byte) :
    (s.withStream bytes).tile = s.tile := rfl

@[simp] theorem State.withStream_tex (s : State) (bytes : List Byte) :
    (s.withStream bytes).tex = s.tex := rfl

@[simp] theorem State.withStream_pixcnt (s : State) (bytes : List Byte) :
    (s.withStream bytes).pixcnt = s.pixcnt := rfl

@[simp] theorem State.withStream_blkR (s : State) (bytes : List Byte) :
    (s.withStream bytes).blkR = s.blkR := rfl

@[simp] theorem State.withStream_blkG (s : State) (bytes : List Byte) :
    (s.withStream bytes).blkG = s.blkG := rfl

@[simp] theorem State.withStream_chR (s : State) (bytes : List Byte) :
    (s.withStream bytes).chR = s.chR := rfl

@[simp] theorem State.withStream_chG (s : State) (bytes : List Byte) :
    (s.withStream bytes).chG = s.chG := rfl

@[simp] theorem State.withStream_px (s : State) (bytes : List Byte) :
    (s.withStream bytes).px = s.px := rfl

@[simp] theorem State.withStream_py (s : State) (bytes : List Byte) :
    (s.withStream bytes).py = s.py := rfl

@[simp] theorem State.withStream_pix (s : State) (bytes : List Byte) :
    (s.withStream bytes).pix = s.pix := rfl

@[simp] theorem State.withStream_cb (s : State) (bytes : List Byte) :
    (s.withStream bytes).cb = s.cb := rfl

@[simp] theorem State.withStream_passSel (s : State) (bytes : List Byte) :
    (s.withStream bytes).passSel = s.passSel := rfl

@[simp] theorem State.withStream_env (s : State) (bytes : List Byte) :
    (s.withStream bytes).env = { s.env with stream := bytes } := rfl

/-! ### accessors over the updates -/

theorem State.blk_setBlk (s : State) (c d : Chan) (b : Block) :
    (s.setBlk c b).blk d = if d = c then b else s.blk d := by
  cases c <;> cases d <;> rfl

theorem State.ch_setCh (s : State) (c d : Chan) (v : Vector F32 16) :
    (s.setCh c v).ch d = if d = c then v else s.ch d := by
  cases c <;> cases d <;> rfl

theorem State.blk_loadBlock (s : State) (c d : Chan) (b : Block) :
    (s.loadBlock c b).blk d = if d = c then b else s.blk d := by
  cases c <;> cases d <;> rfl

@[simp] theorem State.blk_setCh (s : State) (c d : Chan) (v : Vector F32 16) :
    (s.setCh c v).blk d = s.blk d := by
  cases c <;> cases d <;> rfl

@[simp] theorem State.ch_setBlk (s : State) (c d : Chan) (b : Block) :
    (s.setBlk c b).ch d = s.ch d := by
  cases c <;> cases d <;> rfl

@[simp] theorem State.blk_setSeq (s : State) (code : BitVec 4) (d : Chan) :
    (s.setSeq code).blk d = s.blk d := by
  cases d <;> rfl

@[simp] theorem State.ch_setSeq (s : State) (code : BitVec 4) (d : Chan) :
    (s.setSeq code).ch d = s.ch d := by
  cases d <;> rfl

@[simp] theorem State.lane_setSeq (s : State) (code : BitVec 4) (d : Chan) (i : BitVec 4) :
    (s.setSeq code).lane d i = s.lane d i := by
  cases d <;> rfl

/-- A write of one lane: that lane has the value, every other lane of either channel keeps its
own. -/
theorem State.lane_setLane (s : State) (c d : Chan) (i j : BitVec 4) (v : F32) :
    (s.setLane c i v).lane d j = if d = c ∧ j = i then v else s.lane d j := by
  unfold State.lane State.setLane
  rw [State.ch_setCh]
  by_cases h : d = c
  · subst h
    by_cases hj : j = i
    · subst hj; simp
    · have : i.toNat ≠ j.toNat := fun e => hj (BitVec.eq_of_toNat_eq e.symm)
      simp [hj, this]
  · simp [h]

/-- Writing all sixteen registers of one channel. -/
theorem State.lane_setCh (s : State) (c d : Chan) (v : Vector F32 16) (j : BitVec 4) :
    (s.setCh c v).lane d j = if d = c then v[j.toNat]'j.isLt else s.lane d j := by
  unfold State.lane
  cases c <;> cases d <;> rfl

end Sys2Proof.Machine
end

