-- ==== Sys2Proof/Laws/Ops.lean ====
section
/-!
SUPPORT. One lemma per shared operation that says once everything it can do: proofs cite it and do not
unfold the operation.
-/

namespace Sys2Proof.Machine

/-- A command that answers a next state was accepted (R230). -/
theorem acceptCommand_eq_next_iff (s t u : State) :
    acceptCommand s t = .next u ↔ s.seq = seqIdle ∧ u = t := by
  unfold acceptCommand
  split <;> simp_all [eq_comm]

/-- A command is accepted while the sequencer is idle (R230). -/
theorem acceptCommand_idle (s t : State) (h : s.seq = seqIdle) : acceptCommand s t = .next t :=
  (acceptCommand_eq_next_iff s t t).2 ⟨h, rfl⟩

/-- The end of CONSTRUCT and VALIDATE: one failure entry or a cleared ERR (R232, R233). -/
theorem State.checkAndReport_cases (s : State) :
    (∃ f, checkConfig s.fmt s.width s.height = some f ∧ s.checkAndReport = s.raise f) ∨
    (checkConfig s.fmt s.width s.height = none ∧ s.checkAndReport = { s with err := 0#3 }) := by
  unfold State.checkAndReport
  cases h : checkConfig s.fmt s.width s.height <;> simp

/-- `Check` passes exactly BC4 or BC5 with dimensions that are positive multiples of 4 (R231). -/
theorem checkConfig_eq_none_iff (f : BitVec 2) (w h : BitVec 16) :
    checkConfig f w h = none ↔
      (f = 1#2 ∨ f = 2#2) ∧ w.toNat ≠ 0 ∧ h.toNat ≠ 0 ∧ w.toNat % 4 = 0 ∧ h.toNat % 4 = 0 := by
  unfold checkConfig
  split
  · rename_i hf
    simp [hf.1, hf.2]
  · rename_i hf
    have hf' : f = 1#2 ∨ f = 2#2 := by
      by_cases h1 : f = 1#2
      · exact .inl h1
      · by_cases h2 : f = 2#2
        · exact .inr h2
        · exact absurd ⟨h1, h2⟩ hf
    split
    · rename_i hg
      simp only [reduceCtorEq, false_iff]
      omega
    · rename_i hg
      simp only [true_iff]
      exact ⟨hf', by omega⟩

/-- `Check` finds one of two failures (R231). -/
theorem checkConfig_some (f : BitVec 2) (w h : BitVec 16) (e : Failure)
    (he : checkConfig f w h = some e) : e = .unsupportedFormat ∨ e = .malformedGeometry := by
  unfold checkConfig at he
  split at he
  · exact .inl (by simpa using he.symm)
  · split at he
    · exact .inr (by simpa using he.symm)
    · simp at he

/-- A failure code is never 0 and never a reserved one (R281). -/
theorem failureCode_range (f : Failure) :
    1 ≤ (failureCode f).toNat ∧ (failureCode f).toNat ≤ 5 := by
  cases f <;> decide

/-- RDBLK answers a next state always: the failure entry or the loaded block (R121, R123). -/
theorem readBlock_cases (c : Chan) (s : State) :
    (blockAt s.env.stream s.cur.toNat = none ∧
      readBlock c s = .next (s.raise .streamUnderrun)) ∨
    (∃ b, blockAt s.env.stream s.cur.toNat = some b ∧
      readBlock c s = .next (s.loadBlock c b)) := by
  unfold readBlock
  cases blockAt s.env.stream s.cur.toNat <;> simp

/-- A block can be read exactly when 8 bytes remain (R123). -/
theorem blockAt_isSome_iff (stream : List Byte) (a : Nat) :
    (blockAt stream a).isSome ↔ a + 8 ≤ stream.length := by
  unfold blockAt streamRead
  split <;> simp_all

/-- An index-code row in its regime writes one lane; in the other it does not apply. -/
theorem laneInRegime_eq_next_iff (six : Bool) (c : Chan) (i : BitVec 4) (v : F32) (s t : State) :
    laneInRegime six c i v s = .next t ↔ s.six c = six ∧ t = s.setLane c i v := by
  unfold laneInRegime
  split <;> simp_all [eq_comm]

/-- A composed texel that answers a next state had a pixel (R171). -/
theorem composeThen_eq_next_iff (r : F32 × F32 × F32) (k : State → State) (s t : State) :
    composeThen r k s = .next t ↔ ∃ p, toPixel r = some p ∧ t = k (s.setPix p) := by
  unfold composeThen
  cases toPixel r <;> simp [eq_comm]

/-- A pixel exists exactly when the three results lie in [0.0, 1.0], and is their `quant`
(R167, R262). -/
theorem toPixel_eq_some_iff (r : F32 × F32 × F32) (p : Pixel) :
    toPixel r = some p ↔
      (inUnit r.1 = true ∧ inUnit r.2.1 = true ∧ inUnit r.2.2 = true) ∧
        p = ⟨quant r.1, quant r.2.1, quant r.2.2⟩ := by
  unfold toPixel
  split
  · rename_i h
    simp only [Bool.and_eq_true] at h
    simp [h.1.1, h.1.2, h.2, eq_comm]
  · rename_i h
    simp only [Bool.and_eq_true] at h
    simp only [reduceCtorEq, false_iff]
    intro hc
    exact h ⟨⟨hc.1.1, hc.1.2.1⟩, hc.1.2.2⟩

/-- The format code where it stands: it chooses a successor, is put to `Check`, or is not
examined; it never stops the machine (R196, R231). -/
theorem examineFormat_cases (f : BitVec 2) (s : State) :
    (s.seq = seqRdblkR ∧ examineFormat f s = .next (s.setSeq (afterRdblkR f))) ∨
    (s.seq = seqInterpR ∧ examineFormat f s = .next (s.setSeq (afterInterpR f))) ∨
    ((s.seq = seqIdle ∨ s.seq = seqCheck) ∧
      ∃ e, checkConfig f s.width s.height = some e ∧ examineFormat f s = .next (s.raise e)) ∨
    examineFormat f s = .next s := by
  unfold examineFormat
  split
  · exact .inl ⟨‹_›, rfl⟩
  · split
    · exact .inr (.inl ⟨‹_›, rfl⟩)
    · split
      · cases h : checkConfig f s.width s.height with
        | some e => exact .inr (.inr (.inl ⟨‹_›, e, rfl, rfl⟩))
        | none => exact .inr (.inr (.inr rfl))
      · exact .inr (.inr (.inr rfl))

/-- A number that fits its register is held exactly (R264). -/
theorem toNat_fit (w n : Nat) (h : n < 2 ^ w) : (fit w n).toNat = n := by
  simp [fit, h, Nat.mod_eq_of_lt h]

/-- `a mod b` for a positive divisor (R8). -/
theorem modNat_pos (a b : Nat) (h : 0 < b) : modNat a b = a % b := by
  simp [modNat, Nat.pos_iff_ne_zero.1 h]

/-- `a div b` for a positive divisor (R8). -/
theorem divNat_pos (a b : Nat) (h : 0 < b) : divNat a b = a / b := by
  simp [divNat, Nat.pos_iff_ne_zero.1 h]

/-- `CBRead` keeps the hardware's state whenever it answers a next state (R214). -/
theorem hostCbRead_next (a n : Nat) (s t : State) (h : hostCbRead a n s = .next t) :
    ∃ r, t = s.reply r := by
  unfold hostCbRead at h
  split at h
  · split at h
    · exact ⟨_, (Host.Outcome.next.inj h).symm⟩
    · cases h
  · exact ⟨_, (Host.Outcome.next.inj h).symm⟩

/-- What one step can be: the reset, a micro-operation, or a move of the host (R11, R311). -/
theorem step_cases (s : State) :
    (s.resetAsserted = true ∧ step s = .next s.tick.afterReset) ∨
    (s.resetAsserted = false ∧ (s.busy = true ∨ s.env.moves = []) ∧
      step s = exec (decodeSeq s.seq) s.tick) ∨
    (s.resetAsserted = false ∧ s.busy = false ∧ ∃ m ms, s.env.moves = m :: ms ∧
      step s = hostMove m (s.tick.withMoves ms)) := by
  unfold step
  by_cases hr : s.resetAsserted = true
  · exact .inl ⟨hr, by rw [if_pos hr]⟩
  · have hr' : s.resetAsserted = false := by simpa using hr
    refine .inr ?_
    rw [if_neg hr]
    unfold runStep
    by_cases hb : s.busy = true
    · exact .inl ⟨hr', .inl hb, if_pos hb⟩
    · have hb' : s.busy = false := by simpa using hb
      rw [if_neg (show ¬ s.tick.busy = true from hb)]
      cases hms : s.env.moves with
      | nil =>
        have ht : s.tick.env.moves = [] := hms
        exact .inl ⟨hr', .inr rfl, by rw [ht]; rfl⟩
      | cons m ms =>
        have ht : s.tick.env.moves = m :: ms := hms
        exact .inr ⟨hr', hb', m, ms, rfl, by rw [ht]⟩

end Sys2Proof.Machine
end

