-- ==== Sys2Proof/Tests/Slice0.lean ====
section
/-!
SUPPORT. Tests of the model, each on fixed values. Expected values are those of
spec/95_test_vectors.md (the vector is named) or are worked out by hand from the rule named, never
the model's own answer. The theorems `witness_…` show that the hypotheses of an obligation can be
met; where a hypothesis is a range, at its ends.
-/

namespace Sys2Proof.Tests

open Sys2Proof Sys2Proof.Machine

/-! ## Helpers -/

/-- One field of the next state of an instruction. -/
def field {α : Type} (f : State → α) (i : Instr) (s : State) : Option α :=
  match exec i s with
  | .next t => some (f t)
  | _ => none

/-- One field of the state after a step. -/
def stepField {α : Type} (f : State → α) (s : State) : Option α :=
  match step s with
  | .next t => some (f t)
  | _ => none

/-- The fault of an instruction. -/
def faultOf (i : Instr) (s : State) : Option Fault :=
  match exec i s with
  | .fault r => some r
  | _ => none

/-- The refusal of an instruction. -/
def refusalOf (i : Instr) (s : State) : Option Refusal :=
  match exec i s with
  | .refused r => some r
  | _ => none

/-- The decoder's answer on bytes. -/
def acceptOf (src : Source) (bs : List Byte) : Option Instr :=
  match decodeBytes src false bs with
  | .ok i => some i
  | .error _ => none

/-- The decoder's rejection of bytes. -/
def rejectOf (src : Source) (bs : List Byte) : Option Reject :=
  match decodeBytes src false bs with
  | .error r => some r
  | .ok _ => none

/-- A machine after reset with a latched configuration. -/
def configured (f : BitVec 2) (w h : BitVec 16) : State :=
  { State.reset with fmt := f, width := w, height := h }

/-- A machine after reset with a stream and a sequencer state. -/
def streaming (f : BitVec 2) (seq : BitVec 4) (bytes : List Byte) : State :=
  { configured f 4#16 4#16 with seq := seq, env := { Env.empty with stream := bytes } }

/-- A machine after reset with references in both block registers. -/
def withRefs (r0 r1 : Byte) : State :=
  { State.reset with blkR := ⟨r0, r1, 0#48⟩, blkG := ⟨r0, r1, 0#48⟩ }

/-- A machine after reset with a pass code and every lane of the two channels at one value. -/
def withLanes (p : BitVec 2) (c0 c1 : F32) : State :=
  { State.reset with
    pass := p, chR := Vector.replicate 16 c0, chG := Vector.replicate 16 c1 }

/-- A machine after reset with pending moves of the host. -/
def withHost (ms : List HostMove) : State :=
  { State.reset with env := { Env.empty with moves := ms } }

/-- Vector B1: the block of program P2's first tile. -/
def b1Bytes : List Byte := [0xC8#8, 0x64#8, 0x88#8, 0xC6#8, 0xFA#8, 0x77#8, 0x39#8, 0x05#8]

/-! ## WellFormed: each check with a term it refuses -/

/-- A word that the row CONSTRUCT matches (vector K1). -/
theorem test_wf_refuses_construct_word :
    (Instr.illegalOther 0x0000000400040011#64).wf = false := by decide

/-- The word of VALIDATE (vector K9). -/
theorem test_wf_refuses_validate_word : (Instr.illegalOther 0x2#64).wf = false := by decide

/-- A word of DECODE (vector K11). -/
theorem test_wf_refuses_decode_word : (Instr.illegalOther 0x43#64).wf = false := by decide

/-- Words with OP = 0 and OP = 7 (vectors K14, K15) belong to the two other illegal rows. -/
theorem test_wf_refuses_other_ops :
    (Instr.illegalOther 0x0#64).wf = false ∧ (Instr.illegalOther 0x7#64).wf = false := by decide

/-- Vectors K16 to K20: illegal words with OP = 1, 2 or 3. -/
theorem test_wf_accepts_illegal_other :
    (Instr.illegalOther 0xB#64).wf = true ∧
    (Instr.illegalOther 0x0000000400040012#64).wf = true ∧
    (Instr.illegalOther 0x0000000400040051#64).wf = true ∧
    (Instr.illegalOther 0x0001000000000003#64).wf = true ∧
    (Instr.illegalOther 0x103#64).wf = true := by decide

/-- A row of one regime does not fit the other (R96). -/
theorem test_fits_refuses_other_regime :
    (Instr.i2Six .red 0#4).fits false = false ∧ (Instr.i6Four .red 0#4).fits true = false := by
  decide

/-! ## Decoding: every constructor from a word written out from its encoding -/

/-- Vectors K1 and K2. -/
theorem test_decode_construct :
    decode false (.cmd 0x0000000400040011#64) = .construct 1#2 4#16 4#16 ∧
    decode false (.cmd 0x0000000400080021#64) = .construct 2#2 8#16 4#16 := by decide

/-- Vector K9. -/
theorem test_decode_validate : decode false (.cmd 0x2#64) = .validate := by decide

/-- Vectors K10 to K13. -/
theorem test_decode_decode :
    decode false (.cmd 0x03#64) = .decode 0#2 ∧ decode false (.cmd 0x43#64) = .decode 1#2 ∧
    decode false (.cmd 0x83#64) = .decode 2#2 ∧ decode false (.cmd 0xC3#64) = .decode 3#2 := by
  decide

/-- Vectors K14 and K15, and OP = 4 with bit 3 set: bits 63:3 are 1, bits 1:0 are 0. -/
theorem test_decode_illegal_ops :
    decode false (.cmd 0x0#64) = .illegalOp0 0#61 ∧
    decode false (.cmd 0x7#64) = .illegalOp4to7 0#61 3#2 ∧
    decode false (.cmd 0xC#64) = .illegalOp4to7 1#61 0#2 := by decide

/-- Vector K20. -/
theorem test_decode_illegal_other :
    decode false (.cmd 0x103#64) = .illegalOther 0x103#64 := by decide

/-- Vector B1: the bytes in ascending offset, little-endian. -/
theorem test_decode_block_bytes :
    acceptOf (.blk64 .green) b1Bytes = some (.block .green 200#8 100#8 0x053977FAC688#48) := by
  decide

/-- The table of R96 in the 6-step regime. -/
theorem test_decode_index_six :
    decode true (.idx .red 3#4 0b000#3) = .i0 .red 3#4 ∧
    decode true (.idx .red 3#4 0b001#3) = .i1 .red 3#4 ∧
    decode true (.idx .red 3#4 0b010#3) = .i2Six .red 3#4 ∧
    decode true (.idx .red 3#4 0b011#3) = .i3Six .red 3#4 ∧
    decode true (.idx .red 3#4 0b100#3) = .i4Six .red 3#4 ∧
    decode true (.idx .red 3#4 0b101#3) = .i5Six .red 3#4 ∧
    decode true (.idx .red 3#4 0b110#3) = .i6Six .red 3#4 ∧
    decode true (.idx .red 3#4 0b111#3) = .i7Six .red 3#4 := by decide

/-- The table of R96 in the 4-step regime. -/
theorem test_decode_index_four :
    decode false (.idx .green 9#4 0b000#3) = .i0 .green 9#4 ∧
    decode false (.idx .green 9#4 0b001#3) = .i1 .green 9#4 ∧
    decode false (.idx .green 9#4 0b010#3) = .i2Four .green 9#4 ∧
    decode false (.idx .green 9#4 0b011#3) = .i3Four .green 9#4 ∧
    decode false (.idx .green 9#4 0b100#3) = .i4Four .green 9#4 ∧
    decode false (.idx .green 9#4 0b101#3) = .i5Four .green 9#4 ∧
    decode false (.idx .green 9#4 0b110#3) = .i6Four .green 9#4 ∧
    decode false (.idx .green 9#4 0b111#3) = .i7Four .green 9#4 := by decide

/-- The format codes of R100, isBC5 before isBC4. -/
theorem test_decode_format :
    decode false (.fmt 0b00#2) = .fmtNone ∧ decode false (.fmt 0b01#2) = .fmtBc4 ∧
    decode false (.fmt 0b10#2) = .fmtBc5 ∧ decode false (.fmt 0b11#2) = .fmtBoth := by decide

/-- The pass codes of R104. -/
theorem test_decode_pass :
    decode false (.pass 0b00#2) = .passVoid ∧ decode false (.pass 0b01#2) = .passNormal ∧
    decode false (.pass 0b10#2) = .passExt ∧ decode false (.pass 0b11#2) = .passReserved := by
  decide

/-- The sequencer codes of R24, 0 to 7. -/
theorem test_decode_seq_low :
    decode false (.seq 0b0000#4) = .idle ∧ decode false (.seq 0b0001#4) = .check ∧
    decode false (.seq 0b0010#4) = .beginDecode ∧ decode false (.seq 0b0011#4) = .rdblkR ∧
    decode false (.seq 0b0100#4) = .rdblkG ∧ decode false (.seq 0b0101#4) = .interpR ∧
    decode false (.seq 0b0110#4) = .interpG ∧ decode false (.seq 0b0111#4) = .zfill := by decide

/-- The sequencer codes of R24, 8 to 15. -/
theorem test_decode_seq_high :
    decode false (.seq 0b1000#4) = .texxy ∧ decode false (.seq 0b1001#4) = .comp ∧
    decode false (.seq 0b1010#4) = .wrpix ∧ decode false (.seq 0b1011#4) = .nextTile ∧
    decode false (.seq 0b1100#4) = .finish ∧ decode false (.seq 0b1101#4) = .seqReserved13 ∧
    decode false (.seq 0b1110#4) = .seqReserved14 ∧
    decode false (.seq 0b1111#4) = .seqReserved15 := by decide

/-- The decoder on bytes rejects by name: seven bytes of a command, a code above 15, no byte. -/
theorem test_decode_rejects :
    rejectOf .cmd64 (b1Bytes.take 7) = some .wrongLength ∧
    rejectOf .seq4 [0x10#8] = some .bitsAboveWidth ∧
    rejectOf .pass2 [] = some .wrongLength := by decide

/-- Encoding: vectors K2, K12 and B1. -/
theorem test_encode :
    encode (.construct 2#2 8#16 4#16) = .cmd 0x0000000400080021#64 ∧
    encode (.decode 2#2) = .cmd 0x83#64 ∧
    encode (.block .red 200#8 100#8 0x053977FAC688#48) = .blk .red 0x053977FAC68864C8#64 := by
  decide

/-- A table word of 64 bits is a command, one of 8 bits the content of SEQ. -/
theorem test_table_words :
    decodeTableWord 64 0x0000000400040011 = some (.construct 1#2 4#16 4#16) ∧
    decodeTableWord 8 7 = some .zfill ∧ decodeTableWord 8 16 = none := by decide

/-! ## Commands (vectors of spec/95_test_vectors.md 2.7) -/

/-- K1 and K4: the status and the configuration read back. -/
theorem test_construct_k1 :
    field (fun t => (t.csrRead 1#3, t.csrRead 2#3)) (.construct 1#2 4#16 4#16) State.reset =
      some (0x00#64, 0x0000000400040010#64) ∧
    field (fun t => (t.csrRead 1#3, t.csrRead 2#3)) (.construct 1#2 6#16 4#16) State.reset =
      some (0x0C#64, 0x0000000400060010#64) := by decide

/-- K5, K7 and K8: a zero dimension; the format is tested first. -/
theorem test_construct_k5_k7_k8 :
    field (fun t => t.csrRead 1#3) (.construct 1#2 0#16 4#16) State.reset = some 0x0C#64 ∧
    field (fun t => t.csrRead 1#3) (.construct 3#2 4#16 4#16) State.reset = some 0x04#64 ∧
    field (fun t => t.csrRead 1#3) (.construct 0#2 6#16 0#16) State.reset = some 0x04#64 := by
  decide

/-- K9. -/
theorem test_validate_k9 :
    field (fun t => t.csrRead 1#3) .validate (configured 1#2 4#16 4#16) = some 0x00#64 ∧
    field (fun t => t.csrRead 1#3) .validate (configured 1#2 6#16 4#16) = some 0x0C#64 ∧
    field (fun t => t.csrRead 1#3) .validate State.reset = some 0x04#64 := by decide

/-- R234: the sequencer stands at CHECK, the pass code is not yet latched; R23: ERR is 0 while the
command runs, whatever the previous one left. -/
theorem test_decode_starts :
    field (fun t => (t.seq, t.pass, t.err)) (.decode 1#2) { State.reset with err := 5#3 } =
      some (1#4, 0#2, 0#3) := by decide

/-- K14 to K16: IllegalCommand; 0x16 when a buffer was valid. -/
theorem test_illegal_words :
    field (fun t => t.csrRead 1#3) (.illegalOp0 0#61) State.reset = some 0x14#64 ∧
    field (fun t => t.csrRead 1#3) (.illegalOp0 0#61) { State.reset with bufValid := true } =
      some 0x16#64 ∧
    field (fun t => t.err) (.illegalOp4to7 0#61 3#2) State.reset = some 5#3 ∧
    field (fun t => t.err) (.illegalOther 0xB#64) State.reset = some 5#3 := by decide

/-! ## Block reader -/

/-- B1 through RDBLK_R: fields, cursor, successor in BC5. -/
theorem test_rdblk_r_b1 :
    field (fun t => (t.blkR, t.cur, t.seq)) .rdblkR (streaming 2#2 3#4 b1Bytes) =
      some (⟨200#8, 100#8, 0x053977FAC688#48⟩, 8#32, 4#4) := by decide

/-- F5: the green block of a BC5 stream of 15 bytes underruns at offset 8. -/
theorem test_rdblk_g_f5 :
    field (fun t => (t.err, t.seq, t.cur)) .rdblkG
      { streaming 2#2 4#4 (b1Bytes ++ b1Bytes.take 7) with cur := 8#32 } =
      some (2#3, 0#4, 8#32) := by decide

/-- B1, B6 and B9: the index codes of texels, across a byte boundary too. -/
theorem test_index_codes :
    (List.range 16).map (fun i => (idxCode 0x053977FAC688#48 i).toNat) =
      [0, 1, 2, 3, 4, 5, 6, 7, 7, 6, 5, 4, 3, 2, 1, 0] ∧
    idxCode 0x0000000001C0#48 2 = 7#3 ∧ idxCode 0x038000000000#48 13 = 7#3 := by decide

/-- B4: the row BLOCK in BC4. -/
theorem test_block_b4 :
    field (fun t => (t.blkR, t.cur, t.seq)) (.block .red 0xAB#8 0x12#8 0xFFFFFFFFFFFF#48)
      (streaming 1#2 3#4 []) = some (⟨171#8, 18#8, 0xFFFFFFFFFFFF#48⟩, 8#32, 5#4) := by decide

/-! ## Channel interpolator (vectors of 2.2) -/

/-- The eight values of one row of the table. -/
def ladder (r0 r1 : Byte) : List F32 :=
  (List.range 8).map fun k => interp r0 r1 (BitVec.ofNat 3 k)

/-- I1. -/
theorem test_interp_i1 : ladder 200#8 100#8 =
    [0x3F48C8C9#32, 0x3EC8C8C9#32, 0x3F3A714E#32, 0x3F2C19D1#32, 0x3F1DC255#32, 0x3F0F6AD9#32,
     0x3F01135D#32, 0x3EE577C1#32] := by decide +kernel

/-- I2. -/
theorem test_interp_i2 : ladder 100#8 200#8 =
    [0x3EC8C8C9#32, 0x3F48C8C9#32, 0x3EF0F0F2#32, 0x3F0C8C8D#32, 0x3F20A0A1#32, 0x3F34B4B5#32,
     0x00000000#32, 0x3F800000#32] := by decide +kernel

/-- I5: the smallest references. -/
theorem test_interp_i5 : ladder 1#8 0#8 =
    [0x3B808081#32, 0x00000000#32, 0x3B5C4A02#32, 0x3B379301#32, 0x3B12DC01#32, 0x3ADC4A02#32,
     0x3A92DC01#32, 0x3A12DC01#32] := by decide +kernel

/-- I-eq3: equal references are in the 4-step regime, and no result is forced. -/
theorem test_interp_eq3 : (ladder 67#8 67#8).take 6 =
    [0x3E868687#32, 0x3E868687#32, 0x3E868687#32, 0x3E868686#32, 0x3E868686#32, 0x3E868687#32] := by
  decide +kernel

/-- I1, by the rows of the 6-step regime. -/
theorem test_rows_six :
    field (fun t => t.lane .red 5#4) (.i0 .red 5#4) (withRefs 200#8 100#8) = some 0x3F48C8C9#32 ∧
    field (fun t => t.lane .red 5#4) (.i1 .red 5#4) (withRefs 200#8 100#8) = some 0x3EC8C8C9#32 ∧
    field (fun t => t.lane .red 5#4) (.i2Six .red 5#4) (withRefs 200#8 100#8) =
      some 0x3F3A714E#32 ∧
    field (fun t => t.lane .red 5#4) (.i3Six .red 5#4) (withRefs 200#8 100#8) =
      some 0x3F2C19D1#32 ∧
    field (fun t => t.lane .red 5#4) (.i4Six .red 5#4) (withRefs 200#8 100#8) =
      some 0x3F1DC255#32 ∧
    field (fun t => t.lane .red 5#4) (.i5Six .red 5#4) (withRefs 200#8 100#8) =
      some 0x3F0F6AD9#32 ∧
    field (fun t => t.lane .red 5#4) (.i6Six .red 5#4) (withRefs 200#8 100#8) =
      some 0x3F01135D#32 ∧
    field (fun t => t.lane .red 5#4) (.i7Six .red 5#4) (withRefs 200#8 100#8) =
      some 0x3EE577C1#32 := by decide +kernel

/-- I2, by the rows of the 4-step regime. -/
theorem test_rows_four :
    field (fun t => t.lane .green 15#4) (.i2Four .green 15#4) (withRefs 100#8 200#8) =
      some 0x3EF0F0F2#32 ∧
    field (fun t => t.lane .green 15#4) (.i3Four .green 15#4) (withRefs 100#8 200#8) =
      some 0x3F0C8C8D#32 ∧
    field (fun t => t.lane .green 15#4) (.i4Four .green 15#4) (withRefs 100#8 200#8) =
      some 0x3F20A0A1#32 ∧
    field (fun t => t.lane .green 15#4) (.i5Four .green 15#4) (withRefs 100#8 200#8) =
      some 0x3F34B4B5#32 ∧
    field (fun t => t.lane .green 15#4) (.i6Four .green 15#4) (withRefs 100#8 200#8) =
      some 0x00000000#32 ∧
    field (fun t => t.lane .green 15#4) (.i7Four .green 15#4) (withRefs 100#8 200#8) =
      some 0x3F800000#32 := by decide +kernel

/-- Section 2.2: INTERP_R on block B1, quantised. -/
theorem test_interp_r_b1 :
    field (fun t => t.chR.toList.map fun v => (quant v).toNat) .interpR
      { State.reset with blkR := ⟨200#8, 100#8, 0x053977FAC688#48⟩ } =
      some [200, 100, 185, 171, 157, 142, 128, 114, 114, 128, 142, 157, 171, 185, 100, 200] := by
  decide +kernel

/-- P2: INTERP_G on its second block, quantised. -/
theorem test_interp_g_p2 :
    field (fun t => t.chG.toList.map fun v => (quant v).toNat) .interpG
      { State.reset with blkG := ⟨100#8, 200#8, 0xFAC688FAC688#48⟩ } =
      some [0x64, 0xC8, 0x78, 0x8C, 0xA0, 0xB4, 0x00, 0xFF,
        0x64, 0xC8, 0x78, 0x8C, 0xA0, 0xB4, 0x00, 0xFF] := by
  decide +kernel

/-! ## Numeric primitives (vectors of 2.4) -/

/-- N1 to N4. -/
theorem test_fdiv :
    fdiv 0x43480000#32 0x437F0000#32 = 0x3F48C8C9#32 ∧
    fdiv 0x3F800000#32 0x437F0000#32 = 0x3B808081#32 ∧
    fdiv 0x43000000#32 0x437F0000#32 = 0x3F008081#32 ∧
    fdiv 0x437E0000#32 0x437F0000#32 = 0x3F7EFEFF#32 := by decide +kernel

/-- N5 to N8, and R258 on the trace of R165 (f). -/
theorem test_fmul_fadd_fsub :
    fmul 0x3F48C8C9#32 0x40400000#32 = 0x40169697#32 ∧
    fmul 0x3EC8C8C9#32 0x40400000#32 = 0x3F969697#32 ∧
    fadd 0x4048C8C9#32 0x3F969697#32 = 0x408A0A0A#32 ∧
    fdiv 0x408A0A0A#32 0x40E00000#32 = 0x3F1DC255#32 ∧
    fsub 0x3F800000#32 0x37810282#32 = 0x3F7FFEFE#32 := by decide +kernel

/-- N9 to N13. -/
theorem test_fsqrt_fmax_clamp :
    fsqrt 0x3F000000#32 = 0x3F3504F3#32 ∧ fsqrt 0x3E800000#32 = 0x3F000000#32 ∧
    fsqrt 0x00000000#32 = 0x00000000#32 ∧ fmax0 0xBF800000#32 = 0x00000000#32 ∧
    clamp01 0x3F7FFF7F#32 = 0x3F7FFF7F#32 := by decide +kernel

/-- N14 to N20. -/
theorem test_quant :
    (quant 0x3F48C8C9#32).toNat = 200 ∧ (quant 0x3F000000#32).toNat = 127 ∧
    (quant 0x3F800000#32).toNat = 255 ∧ (quant 0x00000000#32).toNat = 0 ∧
    (quant 0x3B808081#32).toNat = 1 ∧ (quant 0x3F7EFEFF#32).toNat = 254 ∧
    (quant 0x3F7FFF7F#32).toNat = 254 := by decide +kernel

/-! ## Channel compositor (vectors of 2.3) -/

/-- R161: all sixteen green lanes, and the successor. -/
theorem test_zfill :
    field (fun t => (t.chG.toList, t.seq)) .zfill (withLanes 0#2 f1 f1) =
      some (List.replicate 16 0x00000000#32, 8#4) := by decide

/-- C-void2 and C-nm6 through COMP. -/
theorem test_comp :
    field (fun t => (t.pix, t.seq)) .comp (withLanes 0#2 0x3F48C8C9#32 0x3EC8C8C9#32) =
      some (⟨0xC8#8, 0x64#8, 0x00#8⟩, 10#4) ∧
    field (fun t => (t.pix, t.seq)) .comp (withLanes 1#2 0x3F48C8C9#32 0x3EC8C8C9#32) =
      some (⟨0xC8#8, 0x64#8, 0xE4#8⟩, 10#4) := by decide +kernel

/-- C-nm2: blue is 254 (spec/90_conflicts.md C2); C-nm7: a negative radicand. -/
theorem test_pass_normal :
    field (fun t => t.pix) .passNormal (withLanes 1#2 0x3F008081#32 0x3F008081#32) =
      some ⟨0x80#8, 0x80#8, 0xFE#8⟩ ∧
    field (fun t => t.pix) .passNormal (withLanes 1#2 0x3F800000#32 0x3F008081#32) =
      some ⟨0xFF#8, 0x80#8, 0x7F#8⟩ := by decide +kernel

/-- C-void3. -/
theorem test_pass_void :
    field (fun t => t.pix) .passVoid (withLanes 1#2 0x3F000000#32 0x3F000000#32) =
      some ⟨0x7F#8, 0x7F#8, 0x00#8⟩ := by decide +kernel

/-- R285: the reserved code, and EXT in this hardware, which has no external pass. -/
theorem test_pass_unsupported :
    field (fun t => (t.err, t.seq)) .passReserved { State.reset with seq := 1#4 } =
      some (4#3, 0#4) ∧
    field (fun t => (t.err, t.seq)) .passExt { State.reset with seq := 1#4 } =
      some (4#3, 0#4) := by decide

/-! ## Tile scanner (vectors of 2.5 and 2.8) -/

/-- F10, F7 and F12: the order of the tests. -/
theorem test_check_failures :
    field (fun t => (t.err, t.seq)) .check
      { configured 0#2 6#16 0#16 with seq := 1#4, passSel := 3#2 } = some (1#3, 0#4) ∧
    field (fun t => (t.err, t.seq)) .check
      { configured 1#2 6#16 4#16 with seq := 1#4 } = some (3#3, 0#4) ∧
    field (fun t => (t.err, t.seq)) .check
      { configured 1#2 4#16 4#16 with seq := 1#4, passSel := 2#2 } = some (4#3, 0#4) := by decide

/-- R197: success latches the pass. -/
theorem test_check_passes :
    field (fun t => (t.pass, t.seq)) .check
      { configured 2#2 4#16 4#16 with seq := 1#4, passSel := 1#2 } = some (1#2, 2#4) := by decide

/-- R198. -/
theorem test_begin :
    field (fun t => (t.bufValid, t.tile, t.seq)) .beginDecode
      { State.reset with bufValid := true, tile := 4#28 } = some (false, 0#28, 3#4) := by decide

/-- T7, and tile 4 of T3. -/
theorem test_texxy :
    field (fun t => (t.px, t.py)) .texxy { configured 1#2 8#16 8#16 with tile := 3#28, tex := 6#4 } =
      some (6#16, 5#16) ∧
    field (fun t => (t.px, t.py)) .texxy { configured 1#2 12#16 8#16 with tile := 4#28 } =
      some (4#16, 4#16) := by decide

/-- T11 and T12. -/
theorem test_next :
    field (fun t => (t.tile, t.tex, t.seq)) .nextTile
      { configured 1#2 8#16 8#16 with tile := 3#28, tex := 15#4 } = some (4#28, 0#4, 12#4) ∧
    field (fun t => (t.tile, t.tex, t.seq)) .nextTile
      { configured 1#2 8#16 8#16 with tile := 1#28, tex := 15#4 } = some (2#28, 0#4, 3#4) := by
  decide

/-- R206. -/
theorem test_finish :
    field (fun t => (t.bufValid, t.seq)) .finish { State.reset with seq := 12#4 } =
      some (true, 0#4) := by decide

/-- R24: the three reserved codes. -/
theorem test_reserved_codes :
    faultOf .seqReserved13 { State.reset with seq := 13#4 } = some (.seqReserved 13#4) ∧
    faultOf .seqReserved14 { State.reset with seq := 14#4 } = some (.seqReserved 14#4) ∧
    faultOf .seqReserved15 { State.reset with seq := 15#4 } = some (.seqReserved 15#4) := by decide

/-- R196 and R231: the format codes at RDBLK_R, at INTERP_R and while idle. -/
theorem test_format_rows :
    field (fun t => t.seq) .fmtBc5 (streaming 2#2 3#4 []) = some 4#4 ∧
    field (fun t => t.seq) .fmtBc4 (streaming 1#2 5#4 []) = some 7#4 ∧
    field (fun t => t.err) .fmtNone (configured 0#2 4#16 4#16) = some 1#3 ∧
    field (fun t => t.err) .fmtBoth (configured 3#2 4#16 4#16) = some 1#3 := by decide

/-! ## Pixel write buffer (vectors of 2.6) -/

/-- A machine at WRPIX as vector W5 has it. -/
def w5 : State :=
  { configured 2#2 8#16 8#16 with
    seq := 10#4, px := 6#16, py := 5#16, pix := ⟨0xAB#8, 0x12#8, 0x00#8⟩, pixcnt := 53#32,
    tex := 6#4 }

/-- W5. -/
theorem test_wrpix_w5 :
    field (fun t => (t.cb, t.pixcnt, t.tex, t.seq)) .wrpix w5 =
      some ([(138, 0xAB#8), (139, 0x12#8), (140, 0x00#8)], 54#32, 7#4, 8#4) := by decide

/-- W6. -/
theorem test_wrpix_w6 :
    field (fun t => (t.tex, t.seq)) .wrpix { w5 with tex := 15#4 } = some (15#4, 11#4) := by decide

/-- W4: the last entry of the largest image. -/
theorem test_pixaddr_w4 : pixAddr 65532 65531 65531 = 12883329069 := by decide

/-! ## The host and reset -/

/-- W9 and W10: a hidden buffer and a range beyond it give no data. -/
theorem test_cbread_refused :
    stepField (fun t => t.env.replies) (withHost [.cbRead 0 1]) = some [.noData] ∧
    stepField (fun t => t.env.replies)
      { withHost [.cbRead 47 2] with bufValid := true, width := 4#16, height := 4#16 } =
      some [.noData] := by decide

/-- The command of vector K1 as a step of the host. -/
theorem test_step_command :
    stepField (fun t => (t.fmt, t.env.moves)) (withHost [.csrWrite 0#3 0x0000000400040011#64]) =
      some (1#2, []) := by decide

/-- R319: the environment replaces the stream while the sequencer is idle. -/
theorem test_step_stream :
    stepField (fun t => t.env.stream) (withHost [.setStream b1Bytes]) = some b1Bytes := by decide

/-- An instruction placed for the fetch is run by the very next step. -/
theorem test_fetch_word :
    stepField (fun t => t.width) (State.reset.withFetchWord 64 0x0000000400040011) = some 4#16 ∧
    stepField (fun t => t.seq) (State.reset.withFetchWord 8 7) = some 8#4 := by decide

/-! ## Witnesses: the hypotheses of the obligations can be met -/

theorem witness_DecodeOfEncode :
    (Instr.illegalOther 0xB#64).wf = true ∧ (Instr.illegalOther 0xB#64).fits false = true ∧
    (Instr.i7Six .red 15#4).wf = true ∧ (Instr.i7Six .red 15#4).fits true = true ∧
    (Instr.i7Four .red 15#4).fits false = true := by decide

theorem witness_IllegalWordRaisesIllegalCommand :
    legal 0x0001000000000003#64 = false ∧ State.reset.seq = 0#4 := by decide

/-- Both cases: a busy sequencer, and an idle one without a move. -/
theorem witness_StepRunsMicroOperation :
    ((streaming 1#2 3#4 b1Bytes).env.resetIn.headD false = false ∧
      (streaming 1#2 3#4 b1Bytes).seq ≠ 0#4 ∧
      decode false (.seq (streaming 1#2 3#4 b1Bytes).seq) = .rdblkR ∧
      Instr.rdblkR.wf = true) ∧
    (State.reset.env.resetIn.headD false = false ∧ State.reset.env.moves = [] ∧
      decode true (.seq State.reset.seq) = .idle ∧ Instr.idle.wf = true) := by decide

theorem witness_StepRunsHostCommand :
    let s := withHost [.csrWrite 0#3 0x2#64, .csrRead 1#3]
    s.env.resetIn.headD false = false ∧ s.seq = 0#4 ∧
    s.env.moves = .csrWrite 0#3 0x2#64 :: [.csrRead 1#3] ∧
    decode false (.cmd 0x2#64) = .validate ∧ Instr.validate.wf = true := by decide

/-- In the middle of a decode. -/
theorem witness_ResetEndsWhateverRuns :
    ({ w5 with env := { w5.env with resetIn := [true, false] } } : State).env.resetIn =
      true :: [false] := by decide

theorem witness_ControlRegisterMap : (1#3 : BitVec 3) ≠ 0#3 ∧ (7#3 : BitVec 3) ≠ 0#3 := by decide

/-- An idle machine whose 4×4 buffer of 48 bytes is exposed, after a BC4 decode of one block. -/
def exposedState : State :=
  { configured 1#2 4#16 4#16 with
    bufValid := true, cur := 8#32, tile := 1#28, pixcnt := 16#32,
    cb := Memory.writeMany [] 0 (List.replicate 48 7#8) }

/-- The exposed machine with a pending read of the buffer. -/
def readingState (a n : Nat) : State :=
  { exposedState with env := { Env.empty with moves := [.cbRead a n] } }

/-- `CsrRead`; `CBRead` of the last byte (47 + 1 = 48), of one byte beyond it, and of a byte that
nothing has written. -/
theorem witness_HostReadsChangeNoHardwareState :
    ((withHost [.csrRead 7#3]).env.moves = .csrRead 7#3 :: [] ∧
      (withHost [.csrRead 7#3]).seq = 0#4 ∧
      (withHost [.csrRead 7#3]).env.resetIn.headD false = false) ∧
    ((readingState 47 1).env.moves = .cbRead 47 1 :: [] ∧ (readingState 47 1).seq = 0#4 ∧
      (readingState 47 1).env.resetIn.headD false = false ∧
      (readingState 47 1).bufValid = true ∧
      47 + 1 = 3 * (readingState 47 1).width.toNat * (readingState 47 1).height.toNat ∧
      (∀ k, k < 1 → ((readingState 47 1).cb.read (47 + k)).isSome)) ∧
    ((readingState 47 2).env.moves = .cbRead 47 2 :: [] ∧ (readingState 47 2).seq = 0#4 ∧
      (readingState 47 2).env.resetIn.headD false = false ∧
      47 + 2 = 3 * (readingState 47 2).width.toNat * (readingState 47 2).height.toNat + 1) ∧
    (let s := { readingState 47 1 with cb := [] };
      s.env.moves = .cbRead 47 1 :: [] ∧ s.seq = 0#4 ∧ s.env.resetIn.headD false = false ∧
      s.bufValid = true ∧ 47 + 1 ≤ 3 * s.width.toNat * s.height.toNat ∧ 0 < 1 ∧
      s.cb.read (47 + 0) = none) := by
  decide

/-- An idle machine, for the six command rows; and a busy one that refuses them. -/
theorem witness_commands : State.reset.seq = 0#4 ∧ w5.seq ≠ 0#4 := by decide

/-- The last 8 bytes of the stream; and one byte too few. -/
theorem witness_RdblkLoadsTheBlock_RdblkUnderruns :
    (let s := { streaming 2#2 4#4 (b1Bytes ++ b1Bytes) with cur := 8#32 };
      s.cur.toNat + 8 = s.env.stream.length ∧ s.cur.toNat + 8 < 2 ^ 32) ∧
    (let s := { streaming 2#2 4#4 (b1Bytes ++ b1Bytes.take 7) with cur := 8#32 };
      s.env.stream.length + 1 = s.cur.toNat + 8 ∧ s.env.stream.length < s.cur.toNat + 8) := by
  decide

/-- The largest cursor of a decode (R25), and the largest the statement takes in. -/
theorem witness_BlockRowLoadsTheBlock :
    (4294443016#32).toNat + 8 < 2 ^ 32 ∧ (0xFFFFFFF7#32).toNat + 8 < 2 ^ 32 := by decide

theorem witness_RdblkRunsTheBlockRow :
    let s := streaming 1#2 3#4 b1Bytes
    (acceptOf (.blk64 .red) ((s.env.stream.drop s.cur.toNat).take 8)).isSome = true := by decide

/-- Neighbouring and equal references: the two sides of the regime test. -/
theorem witness_regimes :
    ((withRefs 128#8 127#8).blk .red).ref1.toNat < ((withRefs 128#8 127#8).blk .red).ref0.toNat ∧
    ((withRefs 128#8 128#8).blk .green).ref0.toNat ≤ ((withRefs 128#8 128#8).blk .green).ref1.toNat
    := by decide

/-- The row for lane 15 of block B1's code 0 and what INTERP_R leaves there. -/
theorem witness_InterpLanesAreTheRows :
    (field (fun _ => ()) .interpR (withRefs 200#8 100#8)).isSome = true ∧
    (field (fun _ => ()) .interpG (withRefs 100#8 200#8)).isSome = true := by decide +kernel

/-- The ends of the two ladders, at neighbouring and at equal references; both are in the order
that `LaddersAreMonotone` asks for. -/
theorem witness_ladders :
    (1 ≤ 1 ∧ 1 ≤ 6 ∧ (127#8 : Byte).toNat < (128#8 : Byte).toNat) ∧ (1 ≤ 6 ∧ 6 ≤ 6) ∧
    (1 ≤ 1 ∧ 1 ≤ 4 ∧ (255#8 : Byte).toNat ≤ (255#8 : Byte).toNat) ∧ (1 ≤ 4 ∧ 4 ≤ 4) ∧
    (0#8 : Byte).toNat < (255#8 : Byte).toNat := by decide

/-- Both ends of the range of magnitudes, and finite values to compare with. -/
theorem witness_RoundingIsNearestEven :
    (0 < 1 ∧ 0 < 2 ^ 126 ∧ 2 ^ 126 ≤ 1 * 2 ^ 126 ∧ 1 < 2 ^ 126 * (2 ^ 128 - 2 ^ 103)) ∧
    (0 < 2 ^ 128 - 2 ^ 103 - 1 ∧ 1 ≤ (2 ^ 128 - 2 ^ 103 - 1) * 2 ^ 126 ∧
      2 ^ 128 - 2 ^ 103 - 1 < 1 * (2 ^ 128 - 2 ^ 103)) ∧
    isFinite 0x7F7FFFFF#32 ∧ isFinite 0x80000000#32 := by
  unfold isFinite
  decide

/-- The smallest normal and the largest finite value. -/
theorem witness_SquareRootIsNearest :
    (isFinite 0x00800000#32 ∧ signBit 0x00800000#32 = false ∧
      0x00800000 ≤ (0x00800000#32 : F32).toNat) ∧
    (isFinite 0x7F7FFFFF#32 ∧ signBit 0x7F7FFFFF#32 = false ∧
      0x00800000 ≤ (0x7F7FFFFF#32 : F32).toNat) := by
  unfold isFinite
  decide

/-- The three passes, at the ends of the unit interval; the third with an external pass. -/
theorem witness_CompComposesTheTexel_PassRows :
    (inUnit ((withLanes 0#2 f0 f1).lane .red 0#4) = true ∧
      inUnit ((withLanes 0#2 f0 f1).lane .green 0#4) = true ∧ (withLanes 0#2 f0 f1).pass = 0#2) ∧
    (inUnit ((withLanes 1#2 f1 f0).lane .red 0#4) = true ∧
      inUnit ((withLanes 1#2 f1 f0).lane .green 0#4) = true ∧ (withLanes 1#2 f1 f0).pass = 1#2) ∧
    (let s := { withLanes 2#2 f0 f1 with env := { Env.empty with hasExtPass := true } };
      inUnit (s.lane .red s.tex) = true ∧ inUnit (s.lane .green s.tex) = true ∧ s.pass = 2#2 ∧
      s.env.hasExtPass = true) ∧
    (withLanes 2#2 f0 f1).env.hasExtPass = false := by decide

/-- The reserved pass, EXT without a function, and values just outside [0.0, 1.0]. -/
theorem witness_CompStopsOutsideItsDomain :
    (withLanes 3#2 f0 f0).pass = 3#2 ∧
    ((withLanes 2#2 f0 f0).pass = 2#2 ∧ (withLanes 2#2 f0 f0).env.hasExtPass = false) ∧
    ((withLanes 0#2 0x3F800001#32 f0).pass = 0#2 ∧
      inUnit ((withLanes 0#2 0x3F800001#32 f0).lane .red 0#4) = false) ∧
    ((withLanes 1#2 f0 0x80000001#32).pass = 1#2 ∧
      inUnit ((withLanes 1#2 f0 0x80000001#32).lane .green 0#4) = false) := by decide

/-- The ends of the unit interval, and the negative zero. -/
theorem witness_NormalBlue :
    inUnit 0x00000000#32 = true ∧ inUnit 0x3F800000#32 = true ∧ inUnit 0x80000000#32 = true := by
  decide

/-- The last tile of an image of 3 × 2 tiles. -/
theorem witness_TexxyGivesThePixel :
    let s := { configured 1#2 12#16 8#16 with tile := 5#28, tex := 15#4 }
    s.tile.toNat < (s.width.toNat / 4) * (s.height.toNat / 4) ∧
    s.tile.toNat + 1 = (s.width.toNat / 4) * (s.height.toNat / 4) := by decide

/-- The last tile of the largest image, and the last value before 28 bits are full. -/
theorem witness_NextAdvancesTheTile :
    (268402688#28 : BitVec 28).toNat + 1 < 2 ^ 28 ∧
    (0xFFFFFFE#28 : BitVec 28).toNat + 1 < 2 ^ 28 := by decide

/-- The last pixel of the image, and the first column and row beyond it. -/
theorem witness_WrpixStoresOneEntry :
    (let s := { w5 with px := 7#16, py := 7#16 };
      s.px.toNat < s.width.toNat ∧ s.py.toNat < s.height.toNat ∧ s.pixcnt.toNat + 1 < 2 ^ 32) ∧
    (let s := { w5 with px := 8#16 };
      ¬(s.px.toNat < s.width.toNat ∧ s.py.toNat < s.height.toNat)) ∧
    (let s := { w5 with py := 8#16 };
      ¬(s.px.toNat < s.width.toNat ∧ s.py.toNat < s.height.toNat)) := by decide

/-- The smallest and the largest image. -/
theorem witness_EveryEntryHasOneTexel :
    ((4#16 : BitVec 16).toNat % 4 = 0 ∧ 0 < tileCount 4#16 4#16 ∧
      15 < (4#16 : BitVec 16).toNat * (4#16 : BitVec 16).toNat) ∧
    ((65532#16 : BitVec 16).toNat % 4 = 0 ∧ 268402688 < tileCount 65532#16 65532#16) := by decide

theorem witness_MemoriesThatReadAlikeAreEqual :
    Memory.wf [(3, 1#8), (5, 0#8)] = true ∧
    Memory.wf (Memory.write (Memory.write [] 5 0#8) 3 1#8) = true ∧
    Memory.write (Memory.write [] 5 0#8) 3 1#8 = [(3, 1#8), (5, 0#8)] := by decide

theorem witness_HiddenBufferIsUnreadable :
    let s := withHost [.cbRead 0 1]
    s.bufValid = false ∧ s.seq = 0#4 ∧ s.env.resetIn.headD false = false ∧
    s.env.moves = .cbRead 0 1 :: [] := by decide

/-- One instruction that does answer a next state for each premise of the writers' rules. -/
theorem witness_writers :
    field (fun t => (t.fmt, t.width)) (.construct 1#2 4#16 4#16) State.reset = some (1#2, 4#16) ∧
    field (fun t => t.bufValid) .finish State.reset = some true ∧
    field (fun t => t.bufValid) .beginDecode exposedState = some false ∧
    field (fun t => t.cur) .beginDecode exposedState = some 0#32 ∧
    (field (fun t => decide (t.blkR ≠ w5.blkR)) (.block .red 1#8 0#8 0#48) w5 = some true) ∧
    (field (fun t => decide (t.blkG ≠ w5.blkG)) (.block .green 1#8 0#8 0#48) w5 = some true) ∧
    (field (fun t => decide (t.chG ≠ (withRefs 0#8 0#8).chG)) (.i7Four .green 0#4)
      (withRefs 0#8 0#8) = some true) ∧
    (field (fun t => decide (t.chR ≠ (withRefs 0#8 0#8).chR)) (.i7Four .red 0#4)
      (withRefs 0#8 0#8) = some true) ∧
    (field (fun t => decide (t.pix ≠ (withLanes 0#2 f1 f0).pix)) .comp (withLanes 0#2 f1 f0) =
      some true) ∧
    (field (fun t => decide (t.px ≠ 0#16)) .texxy
      { configured 1#2 8#16 4#16 with tile := 1#28 } = some true) ∧
    (field (fun t => decide (t.tile ≠ w5.tile ∧ t.tex ≠ w5.tex)) .nextTile w5 = some true) ∧
    (field (fun t => decide (t.pixcnt ≠ w5.pixcnt)) .wrpix w5 = some true) := by decide +kernel

/-- A machine past BEGIN: the second texel of the only tile of a 4×4 BC4 image, at WRPIX. -/
def workingState : State :=
  { configured 1#2 4#16 4#16 with
    seq := 10#4, cur := 8#32, tex := 1#4, px := 1#16, pixcnt := 1#32,
    blkR := ⟨255#8, 0#8, 0#48⟩, chR := Vector.replicate 16 f1,
    pix := ⟨255#8, 0#8, 0#8⟩, cb := [(0, 255#8), (1, 0#8), (2, 0#8)],
    env := { Env.empty with stream := [255#8, 0#8, 0#8, 0#8, 0#8, 0#8, 0#8, 0#8] } }

theorem workingState_lanes : workingState.lanesInUnit := by
  intro c i
  cases c <;> revert i <;> decide

theorem workingState_working : workingState.Working where
  bufferHidden := by decide
  noError := by decide
  tileInside := by decide
  tileAtEnd := by decide
  texStart := by decide
  texEnd := by decide
  cursor := by decide
  cursorInStream := by decide
  count := by decide
  bc5States := by decide
  bc4States := by decide
  column := by decide
  row := by decide
  earlierTiles := fun t _ ht => absurd ht (Nat.not_lt_zero t)
  thisTile := by
    intro i hi
    have hone : workingState.texelsDone = 1 := by decide
    obtain rfl : i = 0 := by omega
    unfold Memory.entryPresent
    decide

/-- A coherent state in the middle of a decode, whose step answers a next state. -/
theorem witness_coherent_working :
    workingState.Coherent ∧ (stepField (fun _ => ()) workingState).isSome = true :=
  ⟨{ memory := by decide
     seqCode := by decide
     errCode := by decide
     running := by decide
     lanes := workingState_lanes
     checked := fun _ => ⟨by unfold State.configLegal; decide, by decide⟩
     working := fun _ => workingState_working
     exposed := fun h => absurd h (by decide) }, by decide⟩

theorem exposedState_lanes : exposedState.lanesInUnit := by
  intro c i
  cases c <;> revert i <;> decide

/-- A coherent state with an exposed buffer, whose step answers a next state. -/
theorem witness_coherent_exposed :
    exposedState.Coherent ∧ (stepField (fun _ => ()) exposedState).isSome = true :=
  ⟨{ memory := by decide
     seqCode := by decide
     errCode := by decide
     running := by decide
     lanes := exposedState_lanes
     checked := fun h => absurd h (by decide)
     working := fun h => absurd h (by decide)
     exposed := fun _ =>
      { config := by unfold State.configLegal; decide
        tileAtEnd := by decide
        texAtStart := by decide
        cursor := by decide
        count := by decide
        complete := by decide } }, by decide⟩

/-- A BC5 machine with a pending DECODE NORMAL and a stream. -/
def readyToDecode (bytes : List Byte) : State :=
  { configured 2#2 4#16 4#16 with
    env := { Env.empty with stream := bytes, moves := [.csrWrite 0#3 0x43#64] } }

/-- Exactly the two blocks that the image needs. -/
theorem witness_DecodeWritesTheImage :
    let s := readyToDecode (b1Bytes ++ b1Bytes)
    s.seq = 0#4 ∧ s.env.resetIn = [] ∧ s.env.moves = .csrWrite 0#3 0x43#64 :: [] ∧
    decodeCommand 0x43#64 = .decode 1#2 ∧ s.configLegal ∧
    passAvailable 1#2 s.env.hasExtPass = true ∧
    8 * (s.bpt * s.tiles) = s.env.stream.length := by
  unfold State.configLegal
  decide

/-- One byte less (vector F5). -/
theorem witness_ShortStreamUnderruns :
    let s := readyToDecode (b1Bytes ++ b1Bytes.take 7)
    s.seq = 0#4 ∧ s.env.resetIn = [] ∧ s.env.moves = .csrWrite 0#3 0x43#64 :: [] ∧
    decodeCommand 0x43#64 = .decode 1#2 ∧ s.configLegal ∧
    passAvailable 1#2 s.env.hasExtPass = true ∧
    s.env.stream.length + 1 = 8 * (s.bpt * s.tiles) := by
  unfold State.configLegal
  decide

/-- An illegal configuration; and an unavailable pass on a legal one with an exposed buffer. -/
theorem witness_RejectedDecodeKeepsTheBuffer :
    (let s := withHost [.csrWrite 0#3 0x03#64];
      s.seq = 0#4 ∧ s.env.resetIn = [] ∧ s.env.moves = .csrWrite 0#3 0x03#64 :: [] ∧
      decodeCommand 0x03#64 = .decode 0#2 ∧ ¬ s.configLegal) ∧
    (let s := { exposedState with env := { Env.empty with moves := [.csrWrite 0#3 0xC3#64] } };
      s.seq = 0#4 ∧ s.env.resetIn = [] ∧ s.env.moves = .csrWrite 0#3 0xC3#64 :: [] ∧
      decodeCommand 0xC3#64 = .decode 3#2 ∧ s.configLegal ∧
      passAvailable 3#2 s.env.hasExtPass = false) := by
  unfold State.configLegal
  decide

end Sys2Proof.Tests
end

section
/-!
The values of [0.0, 1.0]: every result of `clamp01`, `interp` and the pass functions is one, so the
lanes stay there and `quant` has a meaning (spec/10_state.md R29;
spec/46_numeric_primitives.md R261, R262).
-/

namespace Sys2Proof.Machine

/-! ### Which patterns lie in [0.0, 1.0] -/

/-- A pattern is its sign, exponent and fraction fields (R250). -/
theorem toNat_eq_fields (v : F32) :
    v.toNat = (if signBit v then 2 ^ 31 else 0) + expField v * 2 ^ 23 + fracField v := by
  have hs : signBit v = decide (2 ^ 31 ≤ v.toNat) := by
    simpa [signBit, BitVec.msb_eq_getLsbD_last] using BitVec.msb_eq_decide v
  have he : expField v = v.toNat / 2 ^ 23 % 2 ^ 8 := by
    simp [expField, Nat.shiftRight_eq_div_pow]
  have hf : fracField v = v.toNat % 2 ^ 23 := by simp [fracField]
  rw [hs, he, hf]
  have := v.isLt
  split <;> simp_all <;> omega

/-- The fraction field has 23 bits. -/
theorem fracField_lt (v : F32) : fracField v < 2 ^ 23 := (v.extractLsb' 0 23).isLt

theorem magnitude_num_eq_zero (v : F32) (h : (magnitude v).1 = 0) :
    expField v = 0 ∧ fracField v = 0 := by
  have hsig : significand v = 0 := by
    unfold magnitude at h
    split at h
    · simpa using h
    · exact h
  unfold significand at hsig
  split at hsig <;> omega

/-- A magnitude of at most 1 has a pattern up to that of 1.0, the sign aside. -/
theorem fields_le_one (v : F32) (h : (magnitude v).1 ≤ (magnitude v).2) :
    expField v * 2 ^ 23 + fracField v ≤ 0x3F800000 := by
  have hf := fracField_lt v
  by_cases hsmall : expField v < 127
  · omega
  · have hscale : scaleField v = expField v := by unfold scaleField; omega
    have hsig : significand v = 2 ^ 23 + fracField v := if_neg (by omega)
    unfold magnitude at h
    rw [hscale, hsig] at h
    split at h
    · have := Nat.one_le_two_pow (n := expField v - 150)
      nlinarith
    · by_cases hone : expField v = 127
      · rw [hone] at h ⊢
        simp at h
        omega
      · have : 2 ^ (150 - expField v) ≤ 2 ^ 22 := Nat.pow_le_pow_right (by omega) (by omega)
        simp at h
        omega

/-- `clamp01` ends in [0.0, 1.0] whatever its operand (R261). -/
theorem inUnit_clamp01 (a : F32) : inUnit (clamp01 a) = true := by
  unfold clamp01
  split
  · decide
  · split
    · decide
    · rename_i hneg hbig
      have hfields := toNat_eq_fields a
      unfold valueOf at hneg hbig
      by_cases hs : signBit a = true
      · rw [if_pos hs] at hneg hfields
        obtain ⟨he, hf⟩ := magnitude_num_eq_zero a (by simpa using hneg)
        have hzero : a = 0x80000000#32 := BitVec.eq_of_toNat_eq (by simp [hfields, he, hf])
        simp [inUnit, hzero]
      · rw [if_neg hs] at hbig hfields
        have := fields_le_one a (by simpa using hbig)
        simp only [inUnit, Bool.or_eq_true, decide_eq_true_eq]
        omega

theorem inUnit_f0 : inUnit f0 = true := by decide

theorem inUnit_interp (ref0 ref1 : Byte) (code : BitVec 3) :
    inUnit (interp ref0 ref1 code) = true := by
  unfold interp
  split
  case h_4 => exact inUnit_f0
  case h_5 => decide
  all_goals exact inUnit_clamp01 _

theorem inUnit_unitPattern (u : UnitF32) : inUnit (unitPattern u) = true := by
  have := u.isLt
  simp only [inUnit, unitPattern, BitVec.toNat_ofNat, Bool.or_eq_true, decide_eq_true_eq]
  omega

/-- A pass that is available gives, on channel values in [0.0, 1.0], a pixel (R162, R167). -/
theorem passFunction_pixel (p : BitVec 2) (hasExt : Bool) (c0 c1 : F32)
    (hp : passAvailable p hasExt = true) (h0 : inUnit c0 = true) (h1 : inUnit c1 = true) :
    ∃ r q, passFunction p hasExt c0 c1 = some r ∧ toPixel r = some q := by
  have pixel (r : F32 × F32 × F32) (hr : inUnit r.1 = true ∧ inUnit r.2.1 = true ∧
      inUnit r.2.2 = true) : ∃ q, toPixel r = some q :=
    ⟨_, (toPixel_eq_some_iff r _).2 ⟨hr, rfl⟩⟩
  have hcode : p = 0#2 ∨ p = 1#2 ∨ (p = 2#2 ∧ hasExt = true) := by
    revert hp hasExt p; decide
  rcases hcode with rfl | rfl | ⟨rfl, rfl⟩
  · obtain ⟨q, hq⟩ := pixel (voidPass c0 c1) ⟨h0, h1, inUnit_f0⟩
    exact ⟨_, q, rfl, hq⟩
  · obtain ⟨q, hq⟩ := pixel (normalPass c0 c1) ⟨h0, h1, inUnit_clamp01 _⟩
    exact ⟨_, q, rfl, hq⟩
  · obtain ⟨q, hq⟩ := pixel (externalPass c0 c1)
      ⟨inUnit_unitPattern _, inUnit_unitPattern _, inUnit_unitPattern _⟩
    exact ⟨_, q, rfl, hq⟩

end Sys2Proof.Machine
end

section
/-!
The tiles and texels of an image, and which bytes of CB have been written
(spec/43_tile_scanner.md R190 to R194; spec/44_pixel_write_buffer.md R211).
-/

namespace Sys2Proof.Machine

/-! ### The geometry of an image (R190 to R194, R211) -/

/-- NT is small enough for every register that counts tiles, texels or stream bytes (R264). -/
theorem tileCount_le (w h : BitVec 16) : tileCount w h ≤ 16383 * 16383 := by
  have := w.isLt
  have := h.isLt
  exact Nat.mul_le_mul (by omega) (by omega)

/-- An image with a tile has a tile in each row. -/
theorem tilesPerRow_pos (w h : BitVec 16) (t : Nat) (ht : t < tileCount w h) :
    0 < tilesPerRow w :=
  Nat.pos_of_mul_pos_right (Nat.zero_lt_of_lt ht)

/-- A texel of a tile of the image is a pixel of the image (R194). -/
theorem texel_inside (w h : BitVec 16) (t i : Nat) (ht : t < tileCount w h) (hi : i < 16) :
    tileX (tilesPerRow w) t + texelX i < w.toNat ∧
      tileY (tilesPerRow w) t + texelY i < h.toNat := by
  have hpos := tilesPerRow_pos w h t ht
  have hcol : t % tilesPerRow w < w.toNat / 4 := Nat.mod_lt _ hpos
  have hrow : t / tilesPerRow w < h.toNat / 4 := Nat.div_lt_of_lt_mul ht
  rw [tileX, tileY, modNat_pos _ _ hpos, divNat_pos _ _ hpos, texelX, texelY]
  omega

/-- Every pixel of an image of whole tiles is a texel of one of its tiles (R194). -/
theorem exists_texel (w h : BitVec 16) (x y : Nat) (hw : w.toNat % 4 = 0) (hh : h.toNat % 4 = 0)
    (hx : x < w.toNat) (hy : y < h.toNat) :
    ∃ t i, t < tileCount w h ∧ i < 16 ∧ tileX (tilesPerRow w) t + texelX i = x ∧
      tileY (tilesPerRow w) t + texelY i = y := by
  have hcol : x / 4 < tilesPerRow w := by unfold tilesPerRow; omega
  have hpos : 0 < tilesPerRow w := Nat.zero_lt_of_lt hcol
  have hinside : tilesPerRow w * (y / 4) + x / 4 < tileCount w h :=
    calc tilesPerRow w * (y / 4) + x / 4 < tilesPerRow w * (y / 4 + 1) := by
          rw [Nat.mul_succ]; omega
      _ ≤ tileCount w h := Nat.mul_le_mul_left _ (by omega)
  refine ⟨tilesPerRow w * (y / 4) + x / 4, 4 * (y % 4) + x % 4, hinside, by omega, ?_, ?_⟩
  · rw [tileX, modNat_pos _ _ hpos, Nat.mul_add_mod, Nat.mod_eq_of_lt hcol, texelX]
    omega
  · rw [tileY, divNat_pos _ _ hpos, Nat.mul_add_div hpos, Nat.div_eq_of_lt hcol, texelY]
    omega

/-- Every byte of the buffer belongs to the entry of a texel (R34, R194, R211). -/
theorem exists_texelAddress (w h : BitVec 16) (a : Nat) (hw : w.toNat % 4 = 0)
    (hh : h.toNat % 4 = 0) (ha : a < bufferSize w h) :
    ∃ t i, t < tileCount w h ∧ i < 16 ∧ a / 3 * 3 = texelAddress w t i := by
  have he : a / 3 < h.toNat * w.toNat := by
    have : bufferSize w h = 3 * (h.toNat * w.toNat) := by unfold bufferSize; ring
    omega
  have hwpos : 0 < w.toNat := Nat.pos_of_mul_pos_left (Nat.zero_lt_of_lt he)
  obtain ⟨t, i, ht, hi, hx, hy⟩ := exists_texel w h (a / 3 % w.toNat) (a / 3 / w.toNat) hw hh
    (Nat.mod_lt _ hwpos) ((Nat.div_lt_iff_lt_mul hwpos).2 he)
  refine ⟨t, i, ht, hi, ?_⟩
  rw [texelAddress, hx, hy, pixAddr, pixEntry, Nat.div_add_mod', Nat.mul_comm]

/-- The texels of all tiles are the pixels of the image (R207). -/
theorem sixteen_mul_tileCount (w h : BitVec 16) (hw : w.toNat % 4 = 0) (hh : h.toNat % 4 = 0) :
    16 * tileCount w h = w.toNat * h.toNat := by
  obtain ⟨m, hm⟩ := Nat.dvd_of_mod_eq_zero hw
  obtain ⟨n, hn⟩ := Nat.dvd_of_mod_eq_zero hh
  rw [tileCount, hm, hn, Nat.mul_div_cancel_left _ (by decide),
    Nat.mul_div_cancel_left _ (by decide)]
  ring

/-! ### Which bytes of CB have been written -/

/-- A permitted read of written bytes gives them, in their order (R214). -/
theorem Memory.readMany_eq_some (m : Memory) (a n : Nat)
    (h : ∀ k, k < n → (m.read (a + k)).isSome) :
    ∃ bs, m.readMany a n = some bs ∧ bs.length = n ∧
      ∀ k, (hk : k < bs.length) → m.read (a + k) = some bs[k] := by
  induction n generalizing a with
  | zero => exact ⟨[], rfl, rfl, fun k hk => absurd hk (Nat.not_lt_zero k)⟩
  | succ n ih =>
    obtain ⟨b, hb⟩ := Option.isSome_iff_exists.1 (h 0 (Nat.succ_pos n))
    obtain ⟨bs, hbs, hlen, hget⟩ := ih (a + 1) fun k hk => by
      rw [show a + 1 + k = a + (k + 1) by omega]
      exact h (k + 1) (by omega)
    refine ⟨b :: bs, by simp_all [Memory.readMany], by simp [hlen], fun k hk => ?_⟩
    cases k with
    | zero => exact hb
    | succ k =>
      rw [show a + (k + 1) = a + 1 + k by omega, hget k (by simpa using hk)]
      rfl

/-- A read of several bytes, one of which has no value, has none. -/
theorem Memory.readMany_eq_none (m : Memory) (a n k : Nat) (hk : k < n)
    (h : m.read (a + k) = none) : m.readMany a n = none := by
  induction n generalizing a k with
  | zero => omega
  | succ n ih =>
    cases k with
    | zero => simp_all [Memory.readMany]
    | succ k =>
      have := ih (a + 1) k (by omega) (by rw [← h]; congr 1; omega)
      simp [Memory.readMany, this]

/-- Storing bytes leaves no byte unwritten that was written before. -/
theorem Memory.isSome_read_writeMany (m : Memory) (a a' : Nat) (bs : List Byte)
    (h : (m.read a').isSome) : ((m.writeMany a bs).read a').isSome := by
  by_cases hout : a' < a ∨ a + bs.length ≤ a'
  · rwa [Memory.read_writeMany_other _ _ _ _ hout]
  · obtain ⟨i, rfl⟩ : ∃ i, a' = a + i := ⟨a' - a, by omega⟩
    rw [Memory.read_writeMany_self _ _ _ i (by omega)]
    rfl

theorem Memory.entryPresent_writeMany (m : Memory) (a e : Nat) (bs : List Byte)
    (h : m.entryPresent e) : (m.writeMany a bs).entryPresent e := by
  obtain ⟨hr, hg, hb⟩ := h
  exact ⟨m.isSome_read_writeMany a e bs hr, m.isSome_read_writeMany a _ bs hg,
    m.isSome_read_writeMany a _ bs hb⟩

/-- WRPIX writes the whole entry of its pixel (R212). -/
theorem Memory.entryPresent_writeMany_self (m : Memory) (a : Nat) (p : Pixel) :
    (m.writeMany a (pixelBytes p)).entryPresent a := by
  have stored (k : Nat) (hk : k < 3) : ((m.writeMany a (pixelBytes p)).read (a + k)).isSome := by
    rw [Memory.read_writeMany_self (pixelBytes p) m a k hk]
    rfl
  exact ⟨stored 0 (by decide), stored 1 (by decide), stored 2 (by decide)⟩

/-- The bytes of a present entry have been written. -/
theorem Memory.entryPresent_read (m : Memory) (a : Nat) (h : m.entryPresent (a / 3 * 3)) :
    (m.read a).isSome := by
  obtain ⟨hr, hg, hb⟩ := h
  have : a = a / 3 * 3 ∨ a = a / 3 * 3 + 1 ∨ a = a / 3 * 3 + 2 := by omega
  rcases this with e | e | e <;> rw [e] <;> assumption

/-- A canonical memory has no value below its first address. -/
theorem Memory.read_eq_none_of_lt_head (m : Memory) (a : Nat) (hm : m.wf = true)
    (h : ∀ p ∈ m.head?, a < p.1) : m.read a = none := by
  induction m with
  | nil => rfl
  | cons p m ih =>
    obtain ⟨k, b⟩ := p
    obtain ⟨hhead, hrest⟩ := (Memory.wf_cons_iff k b m).1 hm
    have hk : a < k := h (k, b) rfl
    rw [Memory.read, if_neg (by omega)]
    exact ih hrest fun p hp => hk.trans (hhead p hp)

/-- Two memories that read alike and start at an address each start at the same one. -/
theorem Memory.head_le_of_read_eq (k k' : Nat) (b b' : Byte) (m m' : Memory)
    (hwf : Memory.wf ((k, b) :: m) = true)
    (hread : ∀ a, Memory.read ((k, b) :: m) a = Memory.read ((k', b') :: m') a) : k ≤ k' := by
  by_contra hlt
  have hnone := Memory.read_eq_none_of_lt_head _ k' hwf (by simpa using hlt)
  rw [hread, Memory.read, if_pos rfl] at hnone
  cases hnone

/-- Settles O47, by induction on both memories: equal reads force the same first cell, and below
the first cell of the rest both rests read nothing. -/
theorem memoriesThatReadAlikeAreEqual : Obligations.MemoriesThatReadAlikeAreEqual := by
  intro m
  induction m with
  | nil =>
    intro m' _ _ hread
    cases m' with
    | nil => rfl
    | cons p m' => simpa [Memory.read] using hread p.1
  | cons p m ih =>
    intro m' hwf hwf' hread
    obtain ⟨k, b⟩ := p
    cases m' with
    | nil => simpa [Memory.read] using hread k
    | cons p' m' =>
      obtain ⟨k', b'⟩ := p'
      obtain rfl : k = k' := Nat.le_antisymm (Memory.head_le_of_read_eq k k' b b' m m' hwf hread)
        (Memory.head_le_of_read_eq k' k b' b m' m hwf' fun a => (hread a).symm)
      obtain rfl : b = b' := by simpa [Memory.read] using hread k
      obtain ⟨hhead, hm⟩ := (Memory.wf_cons_iff k b m).1 hwf
      obtain ⟨hhead', hm'⟩ := (Memory.wf_cons_iff k b m').1 hwf'
      have hrest : ∀ a, Memory.read m a = Memory.read m' a := by
        intro a
        by_cases ha : k = a
        · subst ha
          rw [Memory.read_eq_none_of_lt_head m k hm hhead,
            Memory.read_eq_none_of_lt_head m' k hm' hhead']
        · simpa [Memory.read, ha] using hread a
      rw [ih m' hm hm' hrest]

end Sys2Proof.Machine
end

section
/-!
How coherent states are built and taken apart, by the place of the sequencer
(spec/10_state.md R38; spec/43_tile_scanner.md R207, R208).
-/

namespace Sys2Proof.Machine

/-! ### Coherent states: how they are built -/

/-- How far a decode is, whatever micro-operation it stands at: `blocks` blocks read, and `texels`
texels of the current tile written (R25, R27, R208). -/
structure State.Progress (s : State) (blocks texels : Nat) : Prop where
  bufferHidden : s.bufValid = false
  noError : s.err = 0#3
  cursor : s.cur.toNat = 8 * blocks
  cursorInStream : s.cur.toNat ≤ s.env.stream.length
  count : s.pixcnt.toNat = 16 * s.tile.toNat + texels
  earlierTiles : ∀ t i, t < s.tile.toNat → i < 16 → s.cb.entryPresent (texelAddress s.width t i)
  thisTile : ∀ i, i < texels → s.cb.entryPresent (texelAddress s.width s.tile.toNat i)

theorem State.Working.progress {s : State} (hw : s.Working) :
    s.Progress s.blocksRead s.texelsDone :=
  { hw with }

/-- Up to ZFILL no texel of the tile is done. -/
theorem State.texelsDone_of_le {s : State} (h : s.seq.toNat ≤ 7) : s.texelsDone = 0 := by
  have later (code : BitVec 4) (hcode : 8 ≤ code.toNat) : s.seq ≠ code := by
    rintro rfl
    omega
  simp [State.texelsDone, later seqTexxy (by decide), later seqComp (by decide),
    later seqWrpix (by decide), later seqNext (by decide)]

/-- The sequencer stands at one of the micro-operations of a texel. -/
def State.atTexel (s : State) : Prop := s.seq = seqTexxy ∨ s.seq = seqComp ∨ s.seq = seqWrpix

/-- At RDBLK_R no block of the tile has been read. -/
theorem State.blocksRead_of_rdblkR {s : State} (h : s.seq = seqRdblkR) :
    s.blocksRead = s.bpt * s.tile.toNat :=
  if_pos (.inl h)

/-- From INTERP_R to NEXT all blocks of the tile have been read. -/
theorem State.blocksRead_of_range {s : State} (hlo : 5 ≤ s.seq.toNat) (hhi : s.seq.toNat ≤ 11) :
    s.blocksRead = s.bpt * s.tile.toNat + s.bpt := by
  have other (code : BitVec 4) (hcode : code.toNat < 5 ∨ 11 < code.toNat) : s.seq ≠ code := by
    rintro rfl
    omega
  simp [State.blocksRead, other seqRdblkR (by decide), other seqRdblkG (by decide),
    other seqFinish (by decide)]

theorem State.atTexel_range {s : State} (h : s.atTexel) :
    8 ≤ s.seq.toNat ∧ s.seq.toNat ≤ 10 := by
  rcases h with e | e | e <;> rw [e] <;> decide

/-- At a texel all blocks of the tile have been read. -/
theorem State.blocksRead_of_atTexel {s : State} (h : s.atTexel) :
    s.blocksRead = s.bpt * s.tile.toNat + s.bpt := by
  obtain ⟨hlo, hhi⟩ := State.atTexel_range h
  exact State.blocksRead_of_range (by omega) (by omega)

/-- What a working state is from RDBLK_R to ZFILL. -/
theorem State.Working.beforeTexels {s : State} (hw : s.Working) (h : s.seq.toNat ≤ 7) :
    s.tile.toNat < s.tiles ∧ s.tex = 0#4 ∧ s.Progress s.blocksRead 0 := by
  refine ⟨hw.tileInside ?_, hw.texStart (.inl h), State.texelsDone_of_le h ▸ hw.progress⟩
  rintro e
  simp +decide [e] at h

/-- What a working state is at TEXXY, COMP and WRPIX. -/
theorem State.Working.atTexel {s : State} (hw : s.Working) (h : s.atTexel) :
    s.tile.toNat < s.tiles ∧ s.Progress (s.bpt * s.tile.toNat + s.bpt) s.tex.toNat := by
  have hdone : s.texelsDone = s.tex.toNat := if_pos h
  refine ⟨hw.tileInside fun e => ?_, State.blocksRead_of_atTexel h ▸ hdone ▸ hw.progress⟩
  rcases h with e' | e' | e' <;> rw [e] at e' <;> cases e'

/-- RDBLK_R to ZFILL: the tile has no texel yet. -/
theorem State.Progress.working_beforeTexels {s : State} (hp : s.Progress s.blocksRead 0)
    (hseq : s.seq.toNat ≤ 7) (htile : s.tile.toNat < s.tiles)
    (htex : s.tex = 0#4) (hbc5 : s.seq = seqRdblkG ∨ s.seq = seqInterpG → s.fmt = 2#2)
    (hbc4 : s.seq = seqZfill → s.fmt = 1#2) : s.Working where
  __ := hp
  tileInside _ := htile
  tileAtEnd e := by simp +decide [e] at hseq
  texStart _ := htex
  texEnd e := by simp +decide [e] at hseq
  count := by rw [State.texelsDone_of_le hseq]; exact hp.count
  bc5States := hbc5
  bc4States := hbc4
  column e := by rcases e with e | e <;> simp +decide [e] at hseq
  row e := by rcases e with e | e <;> simp +decide [e] at hseq
  thisTile := by rw [State.texelsDone_of_le hseq]; exact hp.thisTile

/-- TEXXY, COMP and WRPIX: the texels before TEX are done. -/
theorem State.Progress.working_atTexel {s : State}
    (hp : s.Progress (s.bpt * s.tile.toNat + s.bpt) s.tex.toNat)
    (hseq : s.atTexel) (htile : s.tile.toNat < s.tiles)
    (hpixel : s.seq = seqComp ∨ s.seq = seqWrpix →
      s.px.toNat = tileX (tilesPerRow s.width) s.tile.toNat + texelX s.tex.toNat ∧
      s.py.toNat = tileY (tilesPerRow s.width) s.tile.toNat + texelY s.tex.toNat) :
    s.Working := by
  have hdone : s.texelsDone = s.tex.toNat := if_pos hseq
  obtain ⟨hlo, hhi⟩ := State.atTexel_range hseq
  exact {
    hp with
    tileInside := fun _ => htile
    tileAtEnd := fun e => by simp +decide [e] at hhi
    texStart := fun e => by rcases e with e | e <;> [omega; simp +decide [e] at hhi]
    texEnd := fun e => by simp +decide [e] at hhi
    cursor := by rw [State.blocksRead_of_atTexel hseq]; exact hp.cursor
    count := by rw [hdone]; exact hp.count
    bc5States := fun e => by rcases e with e | e <;> simp +decide [e] at hlo
    bc4States := fun e => by simp +decide [e] at hlo
    column := fun e => (hpixel e).1
    row := fun e => (hpixel e).2
    thisTile := by rw [hdone]; exact hp.thisTile }

/-- NEXT: the tile is complete. -/
theorem State.Progress.working_next {s : State}
    (hp : s.Progress (s.bpt * s.tile.toNat + s.bpt) 16) (hseq : s.seq = seqNext)
    (htile : s.tile.toNat < s.tiles) (htex : s.tex = 15#4) : s.Working where
  __ := hp
  tileInside _ := htile
  tileAtEnd := by simp +decide [hseq]
  texStart := by simp +decide [hseq]
  texEnd _ := htex
  cursor := by simpa +decide [State.blocksRead, hseq] using hp.cursor
  count := by simpa +decide [State.texelsDone, hseq] using hp.count
  bc5States := by simp +decide [hseq]
  bc4States := by simp +decide [hseq]
  column := by simp +decide [hseq]
  row := by simp +decide [hseq]
  thisTile := by simpa +decide [State.texelsDone, hseq] using hp.thisTile

/-- FINISH: all tiles are complete. -/
theorem State.Progress.working_finish {s : State} (hp : s.Progress (s.bpt * s.tile.toNat) 0)
    (hseq : s.seq = seqFinish) (htile : s.tile.toNat = s.tiles) (htex : s.tex = 0#4) :
    s.Working where
  __ := hp
  tileInside := by simp [hseq]
  tileAtEnd _ := htile
  texStart _ := htex
  texEnd := by simp +decide [hseq]
  cursor := by simpa +decide [State.blocksRead, hseq] using hp.cursor
  count := by simpa +decide [State.texelsDone, hseq] using hp.count
  bc5States := by simp +decide [hseq]
  bc4States := by simp +decide [hseq]
  column := by simp +decide [hseq]
  row := by simp +decide [hseq]
  thisTile := by simp +decide [State.texelsDone, hseq]

/-- A state past BEGIN is coherent when its progress is, and the rest is what no micro-operation
touches. -/
theorem State.Working.coherent {s : State} (hw : s.Working) (hhi : s.seq.toNat ≤ 12)
    (hmem : s.cb.wf = true) (hlanes : s.lanesInUnit)
    (hchecked : s.configLegal ∧ passAvailable s.pass s.env.hasExtPass = true) : s.Coherent where
  memory := hmem
  seqCode := hhi
  errCode := by simp [hw.noError]
  running _ := hw.noError
  lanes := hlanes
  checked _ := hchecked
  working _ := hw
  exposed hv := by simp [hw.bufferHidden] at hv

/-- An idle state is coherent when its buffer is complete or hidden. -/
theorem State.coherent_of_idle {s : State} (hseq : s.seq = seqIdle) (hmem : s.cb.wf = true)
    (herr : s.err.toNat ≤ 5) (hlanes : s.lanesInUnit)
    (hexposed : s.bufValid = true → s.Exposed) : s.Coherent where
  memory := hmem
  seqCode := by simp +decide [hseq]
  errCode := herr
  running hrun := absurd hseq hrun
  lanes := hlanes
  checked hlo := by simp +decide [hseq] at hlo
  working hlo := by simp +decide [hseq] at hlo
  exposed := hexposed

/-- The failure entry ends every command in a coherent state (R286). -/
theorem State.Coherent.raise {s : State} (h : s.Coherent) (f : Failure) : (s.raise f).Coherent :=
  State.coherent_of_idle rfl h.memory (failureCode_range f).2 h.lanes fun hv =>
    { h.exposed hv with }

/-- Nothing coherent looks at the host's moves, its replies or the reset input. -/
theorem State.Coherent.withEnv {s : State} (h : s.Coherent) (e : Env)
    (hstream : e.stream = s.env.stream) (hext : e.hasExtPass = s.env.hasExtPass) :
    State.Coherent { s with env := e } where
  __ := h
  checked hlo := ⟨(h.checked hlo).1, by simpa only [hext] using (h.checked hlo).2⟩
  working hlo := { h.working hlo with
    cursorInStream := by simpa [hstream] using (h.working hlo).cursorInStream }
  exposed hv := { h.exposed hv with }

/-- An asserted reset leaves a coherent state, in any environment (R37, R311). -/
theorem State.coherent_resetIn (e : Env) : (State.resetIn e).Coherent :=
  State.coherent_of_idle rfl rfl (Nat.zero_le 5)
    (fun c i => by cases c <;> simp [State.lane, State.ch, State.resetIn, inUnit]) nofun

/-- Filling a channel with values of [0.0, 1.0] keeps all lanes there (R29). -/
theorem State.lanesInUnit_setCh {s : State} (hl : s.lanesInUnit) (c : Chan) (v : Vector F32 16)
    (hv : ∀ i : BitVec 4, inUnit (v[i.toNat]'i.isLt) = true) : (s.setCh c v).lanesInUnit := by
  intro d i
  rw [State.lane_setCh]
  split
  · exact hv i
  · exact hl d i

end Sys2Proof.Machine
end

section
/-!
Every step of a coherent machine answers, with a coherent state: one lemma per micro-operation and
per move of the host, and the statements about coherent states (spec/10_state.md R38;
spec/43_tile_scanner.md R196, R207, R208).
-/

namespace Sys2Proof.Machine

/-! ### Every micro-operation answers, and keeps coherence -/

theorem State.bpt_range (s : State) : 1 ≤ s.bpt ∧ s.bpt ≤ 2 := by
  unfold State.bpt blocksPerTile
  split <;> decide

/-- The blocks of a decode, and so the bytes of its stream and its texels, are few enough for their
registers (R25 to R27, R264). -/
theorem State.blocks_le (s : State) (htile : s.tile.toNat < s.tiles) :
    s.bpt * s.tile.toNat + s.bpt ≤ 2 * (16383 * 16383) := by
  have htiles : s.tiles ≤ 16383 * 16383 := tileCount_le s.width s.height
  calc s.bpt * s.tile.toNat + s.bpt = s.bpt * (s.tile.toNat + 1) := by rw [Nat.mul_succ]
    _ ≤ 2 * (16383 * 16383) := Nat.mul_le_mul s.bpt_range.2 (by omega)

theorem State.blocksRead_le (s : State) :
    s.blocksRead ≤ s.bpt * s.tile.toNat + s.bpt := by
  have := s.bpt_range
  unfold State.blocksRead
  split
  · omega
  · split <;> omega

/-- bpt of a format that `Check` passes (R190). -/
theorem State.configLegal_fmt {s : State} (hc : s.configLegal) :
    s.fmt = 1#2 ∧ s.bpt = 1 ∨ s.fmt = 2#2 ∧ s.bpt = 2 := by
  obtain ⟨hfmt, -⟩ := (checkConfig_eq_none_iff _ _ _).1 hc
  rcases hfmt with e | e
  · exact .inl ⟨e, by simp [State.bpt, blocksPerTile, e]⟩
  · exact .inr ⟨e, by simp [State.bpt, blocksPerTile, e]⟩

/-- A legal image has a tile (R231). -/
theorem State.configLegal_tiles {s : State} (hc : s.configLegal) : 0 < s.tiles := by
  obtain ⟨-, hw, hh, hw4, hh4⟩ := (checkConfig_eq_none_iff _ _ _).1 hc
  exact Nat.mul_pos (by omega) (by omega)

/-- What every micro-operation past BEGIN can rely on (R38). -/
theorem State.Coherent.past_begin {s : State} {code : BitVec 4} (h : s.Coherent)
    (hq : s.seq = code) (hlo : 3 ≤ code.toNat) :
    s.Working ∧ s.configLegal ∧ passAvailable s.pass s.env.hasExtPass = true := by
  subst hq
  exact ⟨h.working hlo, h.checked (by omega)⟩

theorem inUnit_interpLanes (b : Block) (i : BitVec 4) :
    inUnit ((interpLanes b)[i.toNat]'i.isLt) = true := by
  simp [interpLanes, inUnit_interp]

theorem coherent_check {s : State} (h : s.Coherent) (hq : s.seq = seqCheck) :
    ∃ t, exec .check s = .next t ∧ t.Coherent := by
  change ∃ t, execCheck s = .next t ∧ t.Coherent
  unfold execCheck
  cases hc : checkConfig s.fmt s.width s.height with
  | some f => exact ⟨_, rfl, h.raise f⟩
  | none =>
    by_cases hp : passAvailable s.passSel s.env.hasExtPass = true
    · refine ⟨_, if_pos hp, ?_⟩
      exact { h with
        seqCode := by simp +decide
        running := fun _ => h.running (by rw [hq]; decide)
        checked := fun _ => ⟨hc, hp⟩
        working := by simp +decide
        exposed := fun hv => { h.exposed hv with } }
    · exact ⟨_, if_neg hp, h.raise _⟩

theorem coherent_beginDecode {s : State} (h : s.Coherent) (hq : s.seq = seqBegin) :
    ∃ t, exec .beginDecode s = .next t ∧ t.Coherent := by
  have hchecked := h.checked (by rw [hq]; decide)
  refine ⟨_, rfl, State.Working.coherent ?_ (by simp +decide) h.memory h.lanes hchecked⟩
  refine State.Progress.working_beforeTexels ?_ (by simp +decide)
    (State.configLegal_tiles hchecked.1) rfl (by simp +decide) (by simp +decide)
  exact {
    bufferHidden := rfl
    noError := rfl
    cursor := by simp [State.blocksRead]
    cursorInStream := Nat.zero_le _
    count := rfl
    earlierTiles := fun t _ ht => absurd ht (Nat.not_lt_zero t)
    thisTile := nofun }

/-- A block read moves the cursor by one block (R121). -/
theorem State.Progress.loadBlock {s : State} {blocks : Nat} (hp : s.Progress blocks 0) (c : Chan)
    (b : Block) (hb : blockAt s.env.stream s.cur.toNat = some b)
    (hfew : blocks ≤ 2 * (16383 * 16383)) : (s.loadBlock c b).Progress (blocks + 1) 0 := by
  have hbytes : s.cur.toNat + 8 ≤ s.env.stream.length :=
    (blockAt_isSome_iff _ _).1 (by rw [hb]; rfl)
  have hcur := hp.cursor
  have hnew : (s.loadBlock c b).cur.toNat = s.cur.toNat + 8 := toNat_fit 32 _ (by omega)
  exact {
    bufferHidden := by simpa using hp.bufferHidden
    noError := by simpa using hp.noError
    cursor := by omega
    cursorInStream := by rw [hnew, State.loadBlock_env]; exact hbytes
    count := by simpa using hp.count
    earlierTiles := by simpa using hp.earlierTiles
    thisTile := nofun }

/-- The sequencer stands at the block read of channel `c`. -/
def State.readsBlock (s : State) (c : Chan) : Prop :=
  s.seq = match c with
    | .red => seqRdblkR
    | .green => seqRdblkG

/-- After a block read the sequencer stands where one more block has been read (R196). -/
theorem State.blocksRead_loadBlock {s : State} {c : Chan} (hq : s.readsBlock c)
    (hw : s.Working) (hc : s.configLegal) (b : Block) :
    (s.loadBlock c b).blocksRead = s.blocksRead + 1 := by
  have hbpt : (s.loadBlock c b).bpt = s.bpt := by simp [State.bpt]
  cases c with
  | red =>
    have hq : s.seq = seqRdblkR := hq
    rcases State.configLegal_fmt hc with ⟨hfmt, hone⟩ | ⟨hfmt, htwo⟩
    · simp +decide [State.blocksRead, hbpt, hq, hfmt, hone, afterBlock, afterRdblkR]
    · simp +decide [State.blocksRead, hbpt, hq, hfmt, htwo, afterBlock, afterRdblkR]
  | green =>
    have hq : s.seq = seqRdblkG := hq
    rcases State.configLegal_fmt hc with ⟨hfmt, -⟩ | ⟨-, htwo⟩
    · have hfmt' := hw.bc5States (.inl hq)
      rw [hfmt] at hfmt'
      cases hfmt'
    · simp +decide [State.blocksRead, hbpt, hq, htwo, afterBlock]

/-- The two successors of a block read (R196). -/
theorem afterBlock_cases (c : Chan) (fmt : BitVec 2) :
    afterBlock c fmt = seqRdblkG ∧ fmt = 2#2 ∨ afterBlock c fmt = seqInterpR := by
  cases c with
  | red =>
    by_cases hfmt : fmt = 2#2
    · exact .inl ⟨if_pos hfmt, hfmt⟩
    · exact .inr (if_neg hfmt)
  | green => exact .inr rfl

/-- A block read leads from one state before the texels to the next. -/
theorem State.Working.loadBlock {s : State} {c : Chan} (hw : s.Working) (hq : s.readsBlock c)
    (hc : s.configLegal) (b : Block) (hb : blockAt s.env.stream s.cur.toNat = some b) :
    (s.loadBlock c b).Working := by
  obtain ⟨htile, htex, hp⟩ := hw.beforeTexels (by cases c <;> rw [hq] <;> decide)
  have hp' := hp.loadBlock c b hb (s.blocksRead_le.trans (s.blocks_le htile))
  rw [← State.blocksRead_loadBlock hq hw hc b] at hp'
  have htile' : (s.loadBlock c b).tile.toNat < (s.loadBlock c b).tiles := by
    simpa [State.tiles] using htile
  rcases afterBlock_cases c s.fmt with ⟨e, hfmt⟩ | e
  · exact hp'.working_beforeTexels (by simp +decide [e]) htile' (by simpa using htex)
      (fun _ => by simpa using hfmt) (by simp +decide [e])
  · exact hp'.working_beforeTexels (by simp +decide [e]) htile' (by simpa using htex)
      (by simp +decide [e]) (by simp +decide [e])

/-- RDBLK_R and RDBLK_G: the failure entry, or one block more. -/
theorem coherent_readBlock {s : State} {c : Chan} (h : s.Coherent) (hq : s.readsBlock c) :
    ∃ t, readBlock c s = .next t ∧ t.Coherent := by
  rcases readBlock_cases c s with ⟨-, e⟩ | ⟨b, hb, e⟩
  · exact ⟨_, e, h.raise _⟩
  · have hlo : 3 ≤ s.seq.toNat := by cases c <;> rw [hq] <;> decide
    obtain ⟨hw, hchecked⟩ := h.past_begin rfl hlo
    have hw' := hw.loadBlock hq hchecked.1 b hb
    have hseq : (s.loadBlock c b).seq.toNat ≤ 12 := by
      rw [State.loadBlock_seq]
      rcases afterBlock_cases c s.fmt with ⟨e, -⟩ | e <;> rw [e] <;> decide
    refine ⟨_, e, ?_⟩
    cases c
    · exact hw'.coherent hseq h.memory h.lanes hchecked
    · exact hw'.coherent hseq h.memory h.lanes hchecked

/-- New channel values in [0.0, 1.0], on the way from INTERP_R to the first texel (R149, R161,
R196). -/
theorem coherent_withChannels {s : State} (h : s.Coherent) (hlo : 5 ≤ s.seq.toNat)
    (hhi : s.seq.toNat ≤ 7) (r g : Vector F32 16) (code : BitVec 4)
    (hcode : code = seqInterpG ∧ s.fmt = 2#2 ∨ code = seqZfill ∧ s.fmt = 1#2 ∨ code = seqTexxy)
    (hlanes : State.lanesInUnit { s with chR := r, chG := g }) :
    State.Coherent { s with chR := r, chG := g, seq := code } := by
  obtain ⟨hw, hchecked⟩ := h.past_begin rfl (by omega)
  obtain ⟨htile, htex, hp⟩ := hw.beforeTexels hhi
  rw [State.blocksRead_of_range hlo (by omega)] at hp
  have hearly (hq : 5 ≤ code.toNat ∧ code.toNat ≤ 7)
      (hbc5 : code = seqRdblkG ∨ code = seqInterpG → s.fmt = 2#2)
      (hbc4 : code = seqZfill → s.fmt = 1#2) :
      State.Working { s with chR := r, chG := g, seq := code } := by
    refine State.Progress.working_beforeTexels ?_ hq.2 htile htex hbc5 hbc4
    rw [State.blocksRead_of_range hq.1 (hq.2.trans (by decide))]
    exact { hp with }
  rcases hcode with ⟨rfl, hfmt⟩ | ⟨rfl, hfmt⟩ | rfl
  · exact (hearly (by decide) (fun _ => hfmt) (by simp +decide)).coherent (by simp +decide) h.memory
      hlanes hchecked
  · exact (hearly (by decide) (by simp +decide) fun _ => hfmt).coherent (by simp +decide) h.memory
      hlanes hchecked
  · refine State.Working.coherent ?_ (by simp +decide) h.memory hlanes hchecked
    refine State.Progress.working_atTexel ?_ (.inl rfl) htile (by simp +decide)
    rw [← show s.tex.toNat = 0 by rw [htex]; rfl] at hp
    exact { hp with }

/-- What INTERP and ZFILL leave: one channel filled. -/
theorem coherent_fillChannel {s : State} (h : s.Coherent) (hlo : 5 ≤ s.seq.toNat)
    (hhi : s.seq.toNat ≤ 7) (c : Chan) (v : Vector F32 16)
    (hv : ∀ i : BitVec 4, inUnit (v[i.toNat]'i.isLt) = true) (code : BitVec 4)
    (hcode : code = seqInterpG ∧ s.fmt = 2#2 ∨ code = seqZfill ∧ s.fmt = 1#2 ∨ code = seqTexxy) :
    ((s.setCh c v).setSeq code).Coherent := by
  have hlanes := State.lanesInUnit_setCh h.lanes c v hv
  cases c with
  | red => exact coherent_withChannels h hlo hhi v s.chG code hcode hlanes
  | green => exact coherent_withChannels h hlo hhi s.chR v code hcode hlanes

theorem coherent_interpR {s : State} (h : s.Coherent) (hq : s.seq = seqInterpR) :
    ∃ t, exec .interpR s = .next t ∧ t.Coherent := by
  obtain ⟨-, hconfig, -⟩ := h.past_begin hq (by decide)
  refine ⟨_, rfl, coherent_fillChannel h (by rw [hq]; decide) (by rw [hq]; decide) .red _
    (inUnit_interpLanes _) _ ?_⟩
  rcases State.configLegal_fmt hconfig with ⟨hfmt, -⟩ | ⟨hfmt, -⟩
  · exact .inr (.inl ⟨by rw [hfmt]; rfl, hfmt⟩)
  · exact .inl ⟨by rw [hfmt]; rfl, hfmt⟩

theorem coherent_interpG {s : State} (h : s.Coherent) (hq : s.seq = seqInterpG) :
    ∃ t, exec .interpG s = .next t ∧ t.Coherent :=
  ⟨_, rfl, coherent_fillChannel h (by rw [hq]; decide) (by rw [hq]; decide) .green _
    (inUnit_interpLanes _) _ (.inr (.inr rfl))⟩

theorem coherent_zfill {s : State} (h : s.Coherent) (hq : s.seq = seqZfill) :
    ∃ t, exec .zfill s = .next t ∧ t.Coherent :=
  ⟨_, rfl, coherent_fillChannel h (by rw [hq]; decide) (by rw [hq]; decide) .green _
    (fun i => by simp [inUnit_f0]) _ (.inr (.inr rfl))⟩

theorem coherent_texxy {s : State} (h : s.Coherent) (hq : s.seq = seqTexxy) :
    ∃ t, exec .texxy s = .next t ∧ t.Coherent := by
  obtain ⟨hw, hchecked⟩ := h.past_begin hq (by decide)
  obtain ⟨htile, hp⟩ := hw.atTexel (.inl hq)
  obtain ⟨hx, hy⟩ := texel_inside s.width s.height s.tile.toNat s.tex.toNat htile s.tex.isLt
  have hw16 := s.width.isLt
  have hh16 := s.height.isLt
  refine ⟨_, rfl, State.Working.coherent ?_ (by simp +decide) h.memory h.lanes hchecked⟩
  exact State.Progress.working_atTexel { hp with } (.inr (.inl rfl)) htile fun _ =>
    ⟨toNat_fit 16 _ (by omega), toNat_fit 16 _ (by omega)⟩

theorem coherent_comp {s : State} (h : s.Coherent) (hq : s.seq = seqComp) :
    ∃ t, exec .comp s = .next t ∧ t.Coherent := by
  obtain ⟨hw, hchecked⟩ := h.past_begin hq (by decide)
  obtain ⟨htile, hp⟩ := hw.atTexel (.inr (.inl hq))
  obtain ⟨r, p, hpass, hpixel⟩ := passFunction_pixel s.pass s.env.hasExtPass s.texelRed
    s.texelGreen hchecked.2 (h.lanes .red s.tex) (h.lanes .green s.tex)
  have hexec : exec .comp s = .next ((s.setPix p).setSeq seqWrpix) := by
    change execComp s = _
    unfold execComp
    rw [hpass]
    exact (composeThen_eq_next_iff _ _ _ _).2 ⟨p, hpixel, rfl⟩
  refine ⟨_, hexec, State.Working.coherent ?_ (by simp +decide) h.memory h.lanes hchecked⟩
  exact State.Progress.working_atTexel { hp with } (.inr (.inr rfl)) htile fun _ =>
    ⟨hw.column (.inl hq), hw.row (.inl hq)⟩

/-- WRPIX completes the texel TEX: its entry is present, and no earlier one is lost (R208, R212). -/
theorem State.Progress.store {s : State} {blocks : Nat} (hp : s.Progress blocks s.tex.toNat)
    (htile : s.tile.toNat < s.tiles) (p : Pixel) (tex : BitVec 4) (code : BitVec 4) :
    State.Progress { s with
      cb := s.cb.writeMany (texelAddress s.width s.tile.toNat s.tex.toNat) (pixelBytes p),
      pixcnt := fit 32 (s.pixcnt.toNat + 1), tex := tex, seq := code }
      blocks (s.tex.toNat + 1) where
  __ := hp
  count := by
    have htiles : s.tiles ≤ 16383 * 16383 := tileCount_le s.width s.height
    have hcount := hp.count
    have htex := s.tex.isLt
    change (fit 32 (s.pixcnt.toNat + 1)).toNat = 16 * s.tile.toNat + (s.tex.toNat + 1)
    rw [toNat_fit 32 _ (by omega)]
    omega
  earlierTiles t i ht hi := Memory.entryPresent_writeMany _ _ _ _ (hp.earlierTiles t i ht hi)
  thisTile i hi := by
    rcases Nat.lt_succ_iff_lt_or_eq.1 hi with hlt | rfl
    · exact Memory.entryPresent_writeMany _ _ _ _ (hp.thisTile i hlt)
    · exact Memory.entryPresent_writeMany_self _ _ _

/-- In a coherent state WRPIX stands at a pixel of the image, the one of its texel. -/
theorem State.Working.storesTexel {s : State} (hw : s.Working) (hq : s.seq = seqWrpix) :
    s.pixelInImage = true ∧
      s.storeAddress = texelAddress s.width s.tile.toNat s.tex.toNat := by
  obtain ⟨htile, -⟩ := hw.atTexel (.inr (.inr hq))
  obtain ⟨hx, hy⟩ := texel_inside s.width s.height s.tile.toNat s.tex.toNat htile s.tex.isLt
  rw [← hw.column (.inr hq)] at hx
  rw [← hw.row (.inr hq)] at hy
  constructor
  · simp [State.pixelInImage, hx, hy]
  · rw [State.storeAddress, texelAddress, hw.column (.inr hq), hw.row (.inr hq)]

theorem coherent_wrpix {s : State} (h : s.Coherent) (hq : s.seq = seqWrpix) :
    ∃ t, exec .wrpix s = .next t ∧ t.Coherent := by
  obtain ⟨hw, hchecked⟩ := h.past_begin hq (by decide)
  obtain ⟨htile, hp⟩ := hw.atTexel (.inr (.inr hq))
  obtain ⟨hin, haddress⟩ := hw.storesTexel hq
  refine ⟨_, if_pos hin, ?_⟩
  rw [haddress]
  have hmem := Memory.wf_writeMany (pixelBytes s.pix) s.cb
    (texelAddress s.width s.tile.toNat s.tex.toNat) h.memory
  by_cases htex : s.tex.toNat < 15
  · rw [if_pos htex, if_pos htex]
    refine State.Working.coherent ?_ (by simp +decide) hmem h.lanes hchecked
    refine State.Progress.working_atTexel ?_ (.inl rfl) htile (by simp +decide)
    have htex' : (s.tex + 1#4).toNat = s.tex.toNat + 1 := by bv_omega
    rw [htex']
    exact hp.store htile s.pix _ _
  · rw [if_neg htex, if_neg htex]
    have hlast : s.tex.toNat + 1 = 16 := by omega
    refine State.Working.coherent ?_ (by simp +decide) hmem h.lanes hchecked
    refine State.Progress.working_next ?_ rfl htile (by bv_omega)
    rw [← hlast]
    exact hp.store htile s.pix _ _

theorem State.toNat_nextTile {s : State} (htile : s.tile.toNat < s.tiles) :
    (fit 28 (s.tile.toNat + 1)).toNat = s.tile.toNat + 1 := by
  have htiles : s.tiles ≤ 16383 * 16383 := tileCount_le s.width s.height
  exact toNat_fit 28 _ (by omega)

/-- NEXT turns a complete tile into one more complete tile (R204). -/
theorem State.Progress.nextTile {s : State}
    (hp : s.Progress (s.bpt * s.tile.toNat + s.bpt) 16) (htile : s.tile.toNat < s.tiles)
    (code : BitVec 4) :
    State.Progress { s with tile := fit 28 (s.tile.toNat + 1), tex := 0#4, seq := code }
      (s.bpt * (fit 28 (s.tile.toNat + 1)).toNat) 0 where
  __ := hp
  cursor := hp.cursor.trans (by rw [State.toNat_nextTile htile, Nat.mul_succ])
  count := by
    rw [State.toNat_nextTile htile]
    exact hp.count
  earlierTiles t i ht hi := by
    rw [State.toNat_nextTile htile] at ht
    rcases Nat.lt_succ_iff_lt_or_eq.1 ht with hlt | rfl
    · exact hp.earlierTiles t i hlt hi
    · exact hp.thisTile i hi
  thisTile := nofun

theorem coherent_nextTile {s : State} (h : s.Coherent) (hq : s.seq = seqNext) :
    ∃ t, exec .nextTile s = .next t ∧ t.Coherent := by
  obtain ⟨hw, hchecked⟩ := h.past_begin hq (by decide)
  have htile : s.tile.toNat < s.tiles := hw.tileInside (by rw [hq]; decide)
  have hnew := State.toNat_nextTile htile
  have hp : s.Progress (s.bpt * s.tile.toNat + s.bpt) 16 := by
    have hdone : s.texelsDone = 16 := by simp +decide [State.texelsDone, hq]
    have hread := s.blocksRead_of_range (by rw [hq]; decide) (by rw [hq]; decide)
    exact hread ▸ hdone ▸ hw.progress
  refine ⟨_, rfl, ?_⟩
  by_cases hmore : s.tile.toNat + 1 < tileCount s.width s.height
  · rw [if_pos hmore]
    refine State.Working.coherent ?_ (by simp +decide) h.memory h.lanes hchecked
    refine State.Progress.working_beforeTexels ?_ (by simp +decide) (hnew.trans_lt hmore) rfl
      (by simp +decide) (by simp +decide)
    rw [State.blocksRead_of_rdblkR rfl]
    exact hp.nextTile htile _
  · rw [if_neg hmore]
    refine State.Working.coherent ?_ (by simp +decide) h.memory h.lanes hchecked
    have hlast : s.tile.toNat + 1 = s.tiles := Nat.le_antisymm htile (not_lt.1 hmore)
    refine State.Progress.working_finish ?_ rfl (hnew.trans hlast) rfl
    exact hp.nextTile htile _

theorem coherent_finish {s : State} (h : s.Coherent) (hq : s.seq = seqFinish) :
    ∃ t, exec .finish s = .next t ∧ t.Coherent := by
  obtain ⟨hw, hchecked⟩ := h.past_begin hq (by decide)
  have hend := hw.tileAtEnd hq
  obtain ⟨-, -, -, hw4, hh4⟩ := (checkConfig_eq_none_iff _ _ _).1 hchecked.1
  have hcomplete (a : Nat) (ha : a < bufferSize s.width s.height) : (s.cb.read a).isSome := by
    obtain ⟨t, i, ht, hi, hai⟩ := exists_texelAddress s.width s.height a hw4 hh4 ha
    exact s.cb.entryPresent_read a (hai ▸ hw.earlierTiles t i (hend ▸ ht) hi)
  have hcursor : s.cur.toNat = 8 * (s.bpt * s.tiles) := by
    simpa [State.blocksRead, hq, hend] using hw.cursor
  have hcount : s.pixcnt.toNat = 16 * s.tiles := by
    simpa +decide [State.texelsDone, hq, hend] using hw.count
  refine ⟨_, rfl, State.coherent_of_idle rfl h.memory h.errCode h.lanes fun _ => ?_⟩
  exact {
    config := hchecked.1
    tileAtEnd := hend
    texAtStart := hw.texStart (.inr hq)
    cursor := hcursor
    count := hcount.trans (sixteen_mul_tileCount _ _ hw4 hh4)
    complete := hcomplete }

/-! ### The host's moves keep coherence -/

/-- The check that ends CONSTRUCT and VALIDATE (R232, R233). -/
theorem State.Coherent.checkAndReport {s : State} (h : s.Coherent) (hq : s.seq = seqIdle) :
    s.checkAndReport.Coherent := by
  rcases s.checkAndReport_cases with ⟨f, -, e⟩ | ⟨-, e⟩
  · rw [e]
    exact h.raise f
  · rw [e]
    exact State.coherent_of_idle hq h.memory (Nat.zero_le 5) h.lanes fun hv =>
      { h.exposed hv with }

/-- The latches of CONSTRUCT, which drop the buffer (R232). -/
theorem State.Coherent.latchConfig {s : State} (h : s.Coherent) (hq : s.seq = seqIdle)
    (f : BitVec 2) (w ht : BitVec 16) : (s.latchConfig f w ht).Coherent :=
  State.coherent_of_idle hq h.memory h.errCode h.lanes nofun

theorem State.Coherent.startDecode {s : State} (h : s.Coherent) (p : BitVec 2) :
    (s.startDecode p).Coherent where
  __ := h
  seqCode := by simp +decide
  errCode := Nat.zero_le 5
  running _ := rfl
  checked := by simp +decide
  working := by simp +decide
  exposed hv := { h.exposed hv with }

/-- Every command word answers in an idle machine (R230, R235). -/
theorem coherent_command {s : State} (h : s.Coherent) (hq : s.seq = seqIdle) (w : Word64) :
    ∃ t, exec (decodeCommand w) s = .next t ∧ t.Coherent := by
  unfold decodeCommand
  split_ifs
  · exact ⟨_, acceptCommand_idle _ _ hq, (h.latchConfig hq _ _ _).checkAndReport hq⟩
  · exact ⟨_, acceptCommand_idle _ _ hq, h.checkAndReport hq⟩
  · exact ⟨_, acceptCommand_idle _ _ hq, h.startDecode _⟩
  all_goals exact ⟨_, acceptCommand_idle _ _ hq, h.raise _⟩

/-- A read of the buffer finds every permitted byte written (R208, R214). -/
theorem coherent_hostCbRead {s : State} (h : s.Coherent) (a n : Nat) :
    ∃ t, hostCbRead a n s = .next t ∧ t.Coherent := by
  have hreply (r : Reply) : (s.reply r).Coherent := h.withEnv _ rfl rfl
  by_cases hp : s.cbReadPermitted a n = true
  · have hrange := hp
    simp only [State.cbReadPermitted, Bool.and_eq_true, decide_eq_true_eq] at hrange
    obtain ⟨⟨⟨-, hvalid⟩, -⟩, hfits⟩ := hrange
    obtain ⟨bs, hbs, -⟩ := s.cb.readMany_eq_some a n fun k hk =>
      (h.exposed hvalid).complete (a + k) (by omega)
    refine ⟨_, ?_, hreply (.cb bs)⟩
    simp [hostCbRead, hp, State.cbBytes, hbs]
  · exact ⟨_, if_neg hp, hreply .noData⟩

theorem coherent_hostMove {s : State} (h : s.Coherent) (hq : s.seq = seqIdle) (m : HostMove) :
    ∃ t, hostMove m s = .next t ∧ t.Coherent := by
  cases m with
  | csrWrite n w =>
    by_cases hn : n = 0#3
    · obtain ⟨t, ht, hcoherent⟩ := coherent_command h hq w
      exact ⟨t, (if_pos hn).trans ht, hcoherent⟩
    · exact ⟨s, if_neg hn, h⟩
  | csrRead n => exact ⟨_, rfl, h.withEnv _ rfl rfl⟩
  | cbRead a n => exact coherent_hostCbRead h a n
  | setStream bytes =>
    exact ⟨_, rfl, State.coherent_of_idle hq h.memory h.errCode h.lanes fun hv =>
      { h.exposed hv with }⟩

/-! ### The step -/

/-- The codes that are not reserved (R24). -/
theorem seq_cases (code : BitVec 4) (h : code.toNat ≤ 12) :
    code = seqIdle ∨ code = seqCheck ∨ code = seqBegin ∨ code = seqRdblkR ∨ code = seqRdblkG ∨
    code = seqInterpR ∨ code = seqInterpG ∨ code = seqZfill ∨ code = seqTexxy ∨ code = seqComp ∨
    code = seqWrpix ∨ code = seqNext ∨ code = seqFinish := by
  revert code
  decide

/-- The micro-operation that SEQ names answers, and keeps coherence (R196). -/
theorem coherent_microOperation {s : State} (h : s.Coherent) :
    ∃ t, exec (decodeSeq s.seq) s = .next t ∧ t.Coherent := by
  rcases seq_cases s.seq h.seqCode with
    hq | hq | hq | hq | hq | hq | hq | hq | hq | hq | hq | hq | hq <;> rw [hq]
  · exact ⟨s, rfl, h⟩
  · exact coherent_check h hq
  · exact coherent_beginDecode h hq
  · exact coherent_readBlock (c := .red) h hq
  · exact coherent_readBlock (c := .green) h hq
  · exact coherent_interpR h hq
  · exact coherent_interpG h hq
  · exact coherent_zfill h hq
  · exact coherent_texxy h hq
  · exact coherent_comp h hq
  · exact coherent_wrpix h hq
  · exact coherent_nextTile h hq
  · exact coherent_finish h hq

/-- The one statement behind O53 and O55: a coherent machine answers, with a coherent state. -/
theorem coherent_step {s : State} (h : s.Coherent) : ∃ t, step s = .next t ∧ t.Coherent := by
  have htick : s.tick.Coherent := h.withEnv _ rfl rfl
  rcases step_cases s with ⟨-, e⟩ | ⟨-, -, e⟩ | ⟨-, hidle, m, ms, -, e⟩
  · exact ⟨_, e, State.coherent_resetIn _⟩
  · rw [e]
    exact coherent_microOperation htick
  · rw [e]
    have hmoves : (s.tick.withMoves ms).Coherent := htick.withEnv _ rfl rfl
    exact coherent_hostMove hmoves (by simpa [State.busy] using hidle) m

/-- Settles O53, by the answer that every step of a coherent machine gives. -/
theorem coherentSurvivesAStep : Obligations.CoherentSurvivesAStep := by
  intro s t h hstep
  obtain ⟨u, hu, hcoherent⟩ := coherent_step h
  obtain rfl : u = t := Host.Outcome.next.inj (hu.symm.trans hstep)
  exact hcoherent

/-- Settles O55, by the answer that every step of a coherent machine gives. -/
theorem coherentStatesNeverStop : Obligations.CoherentStatesNeverStop := by
  intro s h
  obtain ⟨t, ht, -⟩ := coherent_step h
  exact ⟨t, ht⟩

/-- Settles O54: reset is idle, with a hidden buffer and lanes at 0.0. -/
theorem resetIsCoherent : Obligations.ResetIsCoherent := State.coherent_resetIn Env.empty

end Sys2Proof.Machine
end

section
/-!
What each instruction can write: one inversion lemma over `exec`, and the writers of every register
read off from it (spec/10_state.md R20 to R36).
-/

namespace Sys2Proof.Machine

/-- Every way in which an instruction can change the state, with the instructions that change it
so. A register that a form of change does not name keeps its content. -/
inductive Effect (i : Instr) (s : State) : State → Prop
  /-- Commands, failures, examined codes: at most ERR, SEQ and the operand of CHECK. -/
  | status (e : BitVec 3) (code : BitVec 4) (p : BitVec 2) :
      Effect i s { s with err := e, seq := code, passSel := p }
  | construct (f : BitVec 2) (w h : BitVec 16) (hi : i = .construct f w h) (e : BitVec 3)
      (code : BitVec 4) : Effect i s { s.latchConfig f w h with err := e, seq := code }
  | choosePass (hi : i = .check) : Effect i s { s with pass := s.passSel, seq := seqBegin }
  | beginDecode (hi : i = .beginDecode) :
      Effect i s { s with
        err := 0#3, bufValid := false, cur := 0#32, tile := 0#28, tex := 0#4, pixcnt := 0#32,
        seq := seqRdblkR }
  | loadRed (hi : i = .rdblkR ∨ ∃ r0 r1 ix, i = .block .red r0 r1 ix) (b : Block)
      (n : BitVec 32) (code : BitVec 4) : Effect i s { s with blkR := b, cur := n, seq := code }
  | loadGreen (hi : i = .rdblkG ∨ ∃ r0 r1 ix, i = .block .green r0 r1 ix) (b : Block)
      (n : BitVec 32) (code : BitVec 4) : Effect i s { s with blkG := b, cur := n, seq := code }
  | writeRed (hi : i = .interpR ∨ ∃ lane code six, i = decodeIndex six .red lane code)
      (v : Vector F32 16) (code : BitVec 4) : Effect i s { s with chR := v, seq := code }
  | writeGreen (hi : i = .interpG ∨ i = .zfill ∨
        ∃ lane code six, i = decodeIndex six .green lane code)
      (v : Vector F32 16) (code : BitVec 4) : Effect i s { s with chG := v, seq := code }
  | locate (hi : i = .texxy) (x y : BitVec 16) :
      Effect i s { s with px := x, py := y, seq := seqComp }
  | compose (hi : i = .comp ∨ ∃ code, i = decodePass code) (p : Pixel) (code : BitVec 4) :
      Effect i s { s with pix := p, seq := code }
  | store (hi : i = .wrpix) (m : Memory) (n : BitVec 32) (x : BitVec 4) (code : BitVec 4) :
      Effect i s { s with cb := m, pixcnt := n, tex := x, seq := code }
  | advance (hi : i = .nextTile) (n : BitVec 28) (code : BitVec 4) :
      Effect i s { s with tile := n, tex := 0#4, seq := code }
  | expose (hi : i = .finish) : Effect i s { s with bufValid := true, seq := seqIdle }

theorem Effect.keep (i : Instr) (s : State) : Effect i s s := .status s.err s.seq s.passSel

theorem Effect.raise (i : Instr) (s : State) (f : Failure) : Effect i s (s.raise f) :=
  .status (failureCode f) seqIdle s.passSel

/-- The check that ends CONSTRUCT and VALIDATE writes ERR and SEQ alone (R232, R233). -/
theorem State.checkAndReport_eq (s : State) :
    ∃ e code, s.checkAndReport = { s with err := e, seq := code } := by
  rcases s.checkAndReport_cases with ⟨f, -, e⟩ | ⟨-, e⟩
  · exact ⟨_, _, e⟩
  · exact ⟨_, _, e⟩

theorem effect_examineFormat {i : Instr} {f : BitVec 2} {s t : State}
    (h : examineFormat f s = .next t) : Effect i s t := by
  rcases examineFormat_cases f s with ⟨-, e⟩ | ⟨-, e⟩ | ⟨-, x, -, e⟩ | e <;>
    rw [e] at h <;> cases h
  · exact .status s.err _ s.passSel
  · exact .status s.err _ s.passSel
  · exact .raise i s x
  · exact .keep i s

theorem effect_readBlock {i : Instr} {c : Chan} {s t : State} (h : readBlock c s = .next t)
    (hload : ∀ b, Effect i s (s.loadBlock c b)) : Effect i s t := by
  rcases readBlock_cases c s with ⟨-, e⟩ | ⟨b, -, e⟩ <;> rw [e] at h <;> cases h
  · exact .raise i s _
  · exact hload b

theorem effect_setRed {i : Instr} (s : State) (v : Vector F32 16) (code : BitVec 4)
    (hi : i = .interpR ∨ ∃ lane code six, i = decodeIndex six .red lane code) :
    Effect i s ((s.setCh .red v).setSeq code) := .writeRed hi v code

theorem effect_setGreen {i : Instr} (s : State) (v : Vector F32 16) (code : BitVec 4)
    (hi : i = .interpG ∨ i = .zfill ∨ ∃ lane code six, i = decodeIndex six .green lane code) :
    Effect i s ((s.setCh .green v).setSeq code) := .writeGreen hi v code

/-- An index-code row writes one lane of its channel (R96, log entry 8). -/
theorem effect_setLane {i : Instr} {c : Chan} {lane : BitVec 4} (s : State)
    (hi : ∃ code six, i = decodeIndex six c lane code) (v : F32) :
    Effect i s (s.setLane c lane v) := by
  cases c with
  | red => exact .writeRed (.inr ⟨lane, hi⟩) _ s.seq
  | green => exact .writeGreen (.inr (.inr ⟨lane, hi⟩)) _ s.seq

theorem effect_laneInRegime {i : Instr} {six : Bool} {c : Chan} {lane : BitVec 4} {v : F32}
    {s t : State} (h : laneInRegime six c lane v s = .next t)
    (hi : ∃ code six, i = decodeIndex six c lane code) : Effect i s t := by
  obtain ⟨-, rfl⟩ := (laneInRegime_eq_next_iff _ _ _ _ _ _).1 h
  exact effect_setLane s hi v

theorem effect_passRow {i : Instr} {r : F32 × F32 × F32} {s t : State}
    (h : composeThen r id s = .next t) (hi : ∃ code, i = decodePass code) : Effect i s t := by
  obtain ⟨p, -, rfl⟩ := (composeThen_eq_next_iff _ _ _ _).1 h
  exact .compose (.inr hi) p s.seq

/-- A command that answers has written what it was accepted for (R230). -/
theorem effect_command {i : Instr} {s t u : State} (h : acceptCommand s u = .next t)
    (hu : Effect i s u) : Effect i s t := by
  obtain ⟨-, rfl⟩ := (acceptCommand_eq_next_iff _ _ _).1 h
  exact hu

/-- What an instruction that answers a next state has done. -/
theorem exec_effect {i : Instr} {s t : State} (h : exec i s = .next t) : Effect i s t := by
  cases i with
  | construct f w ht =>
    obtain ⟨e, code, hreport⟩ := (s.latchConfig f w ht).checkAndReport_eq
    exact effect_command h (hreport ▸ .construct f w ht rfl e code)
  | validate =>
    obtain ⟨e, code, hreport⟩ := s.checkAndReport_eq
    exact effect_command h (hreport ▸ .status e code s.passSel)
  | decode p => exact effect_command h (.status 0#3 seqCheck p)
  | illegalOp0 _ | illegalOp4to7 _ _ | illegalOther _ => exact effect_command h (.raise _ s _)
  | block c r0 r1 ix =>
    cases h
    cases c with
    | red => exact .loadRed (.inr ⟨r0, r1, ix, rfl⟩) _ _ _
    | green => exact .loadGreen (.inr ⟨r0, r1, ix, rfl⟩) _ _ _
  | i0 c lane => cases h; exact effect_setLane s ⟨0#3, false, rfl⟩ _
  | i1 c lane => cases h; exact effect_setLane s ⟨1#3, false, rfl⟩ _
  | i2Six c lane => exact effect_laneInRegime h ⟨2#3, true, rfl⟩
  | i3Six c lane => exact effect_laneInRegime h ⟨3#3, true, rfl⟩
  | i4Six c lane => exact effect_laneInRegime h ⟨4#3, true, rfl⟩
  | i5Six c lane => exact effect_laneInRegime h ⟨5#3, true, rfl⟩
  | i6Six c lane => exact effect_laneInRegime h ⟨6#3, true, rfl⟩
  | i7Six c lane => exact effect_laneInRegime h ⟨7#3, true, rfl⟩
  | i2Four c lane => exact effect_laneInRegime h ⟨2#3, false, rfl⟩
  | i3Four c lane => exact effect_laneInRegime h ⟨3#3, false, rfl⟩
  | i4Four c lane => exact effect_laneInRegime h ⟨4#3, false, rfl⟩
  | i5Four c lane => exact effect_laneInRegime h ⟨5#3, false, rfl⟩
  | i6Four c lane => exact effect_laneInRegime h ⟨6#3, false, rfl⟩
  | i7Four c lane => exact effect_laneInRegime h ⟨7#3, false, rfl⟩
  | fmtNone | fmtBc4 | fmtBc5 | fmtBoth => exact effect_examineFormat h
  | passVoid => exact effect_passRow h ⟨0#2, rfl⟩
  | passNormal => exact effect_passRow h ⟨1#2, rfl⟩
  | passExt =>
    change (if s.env.hasExtPass then _ else _) = _ at h
    split at h
    · exact effect_passRow h ⟨2#2, rfl⟩
    · cases h
      exact .raise _ s _
  | passReserved => cases h; exact .raise _ s _
  | idle => cases h; exact .keep _ s
  | check =>
    change execCheck s = _ at h
    unfold execCheck at h
    split at h
    · cases h
      exact .raise _ s _
    · split at h <;> cases h
      · exact .choosePass rfl
      · exact .raise _ s _
  | beginDecode => cases h; exact .beginDecode rfl
  | rdblkR => exact effect_readBlock h fun b => .loadRed (.inl rfl) b _ _
  | rdblkG => exact effect_readBlock h fun b => .loadGreen (.inl rfl) b _ _
  | interpR => cases h; exact effect_setRed s _ _ (.inl rfl)
  | interpG => cases h; exact effect_setGreen s _ _ (.inl rfl)
  | zfill => cases h; exact effect_setGreen s _ _ (.inr (.inl rfl))
  | texxy => cases h; exact .locate rfl _ _
  | comp =>
    change execComp s = _ at h
    unfold execComp at h
    split at h
    · obtain ⟨p, -, rfl⟩ := (composeThen_eq_next_iff _ _ _ _).1 h
      exact .compose (.inl rfl) p _
    · cases h
  | wrpix =>
    change (if s.pixelInImage then _ else _) = _ at h
    split at h <;> cases h
    exact .store rfl _ _ _ _
  | nextTile => cases h; exact .advance rfl _ _
  | finish => cases h; exact .expose rfl
  | seqReserved13 | seqReserved14 | seqReserved15 => cases h

/-- Settles O49, over the forms of change: `construct` alone has FMT, WIDTH and HEIGHT, `choosePass`
alone PASS, and none the environment. -/
theorem configurationWriters : Obligations.ConfigurationWriters := by
  intro i s t h
  cases exec_effect h with
  | construct f w ht hi => exact ⟨fun hne => absurd hi (hne f w ht), fun _ => rfl, rfl⟩
  | choosePass hi => exact ⟨fun _ => ⟨rfl, rfl, rfl⟩, fun hne => absurd hi hne, rfl⟩
  | _ => exact ⟨fun _ => ⟨rfl, rfl, rfl⟩, fun _ => rfl, rfl⟩

/-- Settles O50, over the forms of change: four of them have BUF_VALID or CB. -/
theorem bufferWriters : Obligations.BufferWriters := by
  intro i s t h
  cases exec_effect h with
  | construct f w ht hi => exact ⟨nofun, fun _ _ => .inr ⟨f, w, ht, hi⟩, fun _ => rfl⟩
  | beginDecode hi => exact ⟨nofun, fun _ _ => .inl hi, fun _ => rfl⟩
  | expose hi => exact ⟨fun _ _ => hi, nofun, fun _ => rfl⟩
  | store hi => simp [hi]
  | _ => simp +contextual

/-- Settles O51, over the forms of change: each data-path register has one. -/
theorem datapathWriters : Obligations.DatapathWriters := by
  intro i s t h
  cases exec_effect h with
  | loadRed hi => exact ⟨fun _ => hi, by simp⟩
  | loadGreen hi => exact ⟨by simp, fun _ => hi, by simp⟩
  | writeRed hi => exact ⟨by simp, by simp, fun _ => hi, by simp⟩
  | writeGreen hi => exact ⟨by simp, by simp, by simp, fun _ => hi, by simp⟩
  | locate hi => exact ⟨by simp, by simp, by simp, by simp, fun _ => hi, by simp⟩
  | compose hi => exact ⟨by simp, by simp, by simp, by simp, by simp, fun _ => hi⟩
  | _ => simp

/-- Settles O52, over the forms of change: CONSTRUCT, BEGIN, a block read, WRPIX and NEXT have a
counter. -/
theorem counterWriters : Obligations.CounterWriters := by
  intro i s t h
  cases exec_effect h with
  | construct f w ht hi => simp [hi]
  | beginDecode hi => simp [hi]
  | loadRed hi =>
    rcases hi with hi | ⟨r0, r1, ix, hi⟩ <;> simp [hi]
  | loadGreen hi =>
    rcases hi with hi | ⟨r0, r1, ix, hi⟩ <;> simp [hi]
  | store hi => simp [hi]
  | advance hi => simp [hi]
  | _ => simp

end Sys2Proof.Machine
end

section
/-!
The control registers, reset, and what one step runs (spec/10_state.md R24, R32, R33, R37;
spec/44_pixel_write_buffer.md R214; spec/45_host_commands.md R230, R234).
-/

namespace Sys2Proof.Machine

/-! ### The control registers as numbers -/

/-- Two fields side by side as a number: the upper one counts in units of the lower one's range. -/
theorem toNat_append_add {m n : Nat} (x : BitVec m) (y : BitVec n) :
    (x ++ y).toNat = x.toNat * 2 ^ n + y.toNat := by
  rw [BitVec.toNat_append, ← Nat.shiftLeft_add_eq_or_of_lt y.isLt, Nat.shiftLeft_eq]

theorem toNat_flagBit (b : Bool) : (flagBit b).toNat = if b then 1 else 0 := by
  cases b <;> rfl

theorem State.toNat_statusWord (s : State) :
    s.statusWord.toNat =
      (if s.seq = 0#4 then 0 else 1) + 2 * (if s.bufValid then 1 else 0) + 4 * s.err.toNat := by
  have hbusy : (if s.busy then 1 else 0) = if s.seq = 0#4 then 0 else 1 := by
    by_cases h : s.seq = 0#4 <;> simp [State.busy, seqIdle, h]
  simp only [State.statusWord, toNat_append_add, toNat_flagBit, hbusy, BitVec.toNat_zero]
  omega

theorem State.toNat_configWord (s : State) :
    s.configWord.toNat =
      16 * s.fmt.toNat + 64 * s.pass.toNat + 2 ^ 16 * s.width.toNat + 2 ^ 32 * s.height.toNat := by
  simp only [State.configWord, toNat_append_add, BitVec.toNat_zero]
  omega

/-- After reset every control register reads 0 (R37). -/
theorem State.reset_csrRead (n : BitVec 3) : State.reset.csrRead n = 0#64 := by
  revert n
  decide

/-- Settles O11, register by register: the two packed words are sums of their fields, the counters
are widened, and a write reaches CMD alone. -/
theorem controlRegisterMap : Obligations.ControlRegisterMap := by
  refine ⟨fun s => ⟨rfl, s.toNat_statusWord, s.toNat_configWord, ?_, ?_, ?_, rfl, rfl⟩,
    fun s w six => rfl, fun s n w hn => if_neg hn, State.reset_csrRead⟩
  · exact BitVec.toNat_setWidth_of_le (by decide)
  · exact BitVec.toNat_setWidth_of_le (by decide)
  · exact BitVec.toNat_setWidth_of_le (by decide)

/-! ### What one step runs -/

/-- A step of a busy machine, or of an idle one with no pending move (R196). -/
theorem step_microOperation {s : State} (hreset : s.env.resetIn.headD false = false)
    (h : s.seq ≠ 0#4 ∨ s.env.moves = []) : step s = exec (decodeSeq s.seq) s.tick := by
  rcases step_cases s with ⟨e, -⟩ | ⟨-, -, e⟩ | ⟨-, hidle, m, ms, hm, -⟩
  · exact absurd (hreset.symm.trans e) (by decide)
  · exact e
  · rcases h with hq | hnil
    · exact absurd (by simpa [State.busy, seqIdle] using hidle) hq
    · rw [hm] at hnil
      cases hnil

/-- A step of an idle machine with a pending move (R33, R230). -/
theorem step_hostMove {s : State} {m : HostMove} {ms : List HostMove}
    (hreset : s.env.resetIn.headD false = false) (hq : s.seq = 0#4)
    (hm : s.env.moves = m :: ms) : step s = hostMove m (s.tick.withMoves ms) := by
  rcases step_cases s with ⟨e, -⟩ | ⟨-, h, -⟩ | ⟨-, -, m', ms', hm', e⟩
  · exact absurd (hreset.symm.trans e) (by decide)
  · simp [State.busy, seqIdle, hq, hm] at h
  · obtain ⟨rfl, rfl⟩ : m = m' ∧ ms = ms' := List.cons.inj (hm.symm.trans hm')
    exact e

/-- Settles O7, by `step_microOperation`. -/
theorem stepRunsMicroOperation : Obligations.StepRunsMicroOperation := by
  refine ⟨?_, fun s => rfl⟩
  rintro s six i hreset h rfl -
  exact step_microOperation hreset h

/-- Settles O8, by `step_hostMove`. -/
theorem stepRunsHostCommand : Obligations.StepRunsHostCommand := by
  rintro s six w ms i hreset hq hm rfl -
  exact step_hostMove hreset hq hm

/-- A read of the buffer is permitted exactly with BUF_VALID = 1 and inside it (R214). -/
theorem State.cbReadPermitted_iff {s : State} {a n : Nat} (hq : s.seq = 0#4) (hn : 1 ≤ n) :
    s.cbReadPermitted a n = true ↔
      s.bufValid = true ∧ a + n ≤ 3 * s.width.toNat * s.height.toNat := by
  change _ ↔ s.bufValid = true ∧ a + n ≤ bufferSize s.width s.height
  simp [State.cbReadPermitted, seqIdle, hq, hn]

/-- Settles O12: the move is `hostMove` on the state with the move used up, and `CBRead` has its
three outcomes by the permission and by the bytes written. -/
theorem hostReadsChangeNoHardwareState : Obligations.HostReadsChangeNoHardwareState := by
  refine ⟨fun s n ms hreset hq hm => step_hostMove hreset hq hm,
    fun s a n ms hreset hq hm hn => ?_⟩
  have hstep : step s = hostCbRead a n (s.tick.withMoves ms) := step_hostMove hreset hq hm
  have hpermitted := (s.tick.withMoves ms).cbReadPermitted_iff (a := a) hq hn
  rw [hstep]
  refine ⟨fun hp hwritten => ?_, fun hp ⟨k, hk, hnone⟩ => ?_, fun hp => ?_⟩
  · obtain ⟨bs, hbs, hlen, hget⟩ := s.cb.readMany_eq_some a n hwritten
    refine ⟨bs, hlen, hget, ?_⟩
    simp [hostCbRead, hpermitted.2 hp, State.cbBytes, hbs, State.reply]
  · have hbytes : s.cb.readMany a n = none := s.cb.readMany_eq_none a n k hk hnone
    simp [hostCbRead, hpermitted.2 hp, State.cbBytes, hbytes]
  · exact if_neg (mt hpermitted.1 hp)

/-- Settles O10: reset sets each of these fields, whatever the environment. -/
theorem resetLeavesTheSpecValues : Obligations.ResetLeavesTheSpecValues :=
  ⟨rfl, rfl, rfl, rfl, rfl, rfl, rfl, rfl, rfl, rfl, rfl, rfl⟩

/-- Settles O15: an idle machine accepts the command. -/
theorem decodeStartsTheSequencer : Obligations.DecodeStartsTheSequencer :=
  fun s p hq => acceptCommand_idle s (s.startDecode p) hq

/-- Settles O43: the three rows fault whatever the state. -/
theorem reservedCodesStop : Obligations.ReservedCodesStop :=
  fun _ => ⟨rfl, rfl, rfl⟩

end Sys2Proof.Machine
end

section
/-!
The six formats: the command word in its fields, and the decoder and the encoder as inverses of each
other, format by format (spec/30_encoding.md R90 to R104; spec/45_host_commands.md R236).
-/

namespace Sys2Proof

/-! ### The fields of a command word -/

/-- What a mask fixes: a field inside the mask has the bits of the match (R236). -/
theorem extractLsb'_of_and_eq {w mask val : Word64} (h : w &&& mask = val) {start len : Nat}
    (hmask : mask.extractLsb' start len = BitVec.allOnes len) :
    w.extractLsb' start len = val.extractLsb' start len := by
  rw [← h, BitVec.extractLsb'_and, hmask, BitVec.and_allOnes]

/-- The field between two others of a word. -/
theorem extractLsb'_field {m n k : Nat} (hi : BitVec m) (x : BitVec n) (lo : BitVec k) :
    (hi ++ x ++ lo).extractLsb' k n = x := by
  rw [BitVec.extractLsb'_append_eq_of_le le_rfl, Nat.sub_self]
  exact BitVec.extractLsb'_append_eq_right

/-- The CONSTRUCT word with these operands (R98). -/
def constructWord (f : BitVec 2) (w h : BitVec 16) : Word64 := 0#16 ++ h ++ w ++ 0#10 ++ f ++ 1#4

/-- The DECODE word with this PASS_SEL (R98). -/
def decodeWord (p : BitVec 2) : Word64 := 0#56 ++ p ++ 3#6

theorem encode_construct (f : BitVec 2) (w h : BitVec 16) :
    encode (.construct f w h) = .cmd (constructWord f w h) := rfl

theorem encode_decodeRow (p : BitVec 2) : encode (.decode p) = .cmd (decodeWord p) := rfl

/-- The CONSTRUCT mask keeps the fixed fields and clears the operands (R236). -/
theorem fields_and_constructMask (top h w : BitVec 16) (mid : BitVec 10) (f : BitVec 2)
    (low : BitVec 4) :
    (top ++ h ++ w ++ mid ++ f ++ low) &&& constructMask =
      top ++ 0#16 ++ 0#16 ++ mid ++ 0#2 ++ low := by
  change (top ++ h ++ w ++ mid ++ f ++ low) &&&
    (BitVec.allOnes 16 ++ 0#16 ++ 0#16 ++ BitVec.allOnes 10 ++ 0#2 ++ BitVec.allOnes 4) = _
  simp only [BitVec.and_append, BitVec.and_allOnes, BitVec.and_zero]

theorem constructWord_and_mask (f : BitVec 2) (w h : BitVec 16) :
    constructWord f w h &&& constructMask = 1#64 :=
  fields_and_constructMask 0#16 h w 0#10 f 1#4

/-- A word that CONSTRUCT matches is the CONSTRUCT word of its three operand fields (R236). -/
theorem eq_constructWord {w : Word64} (h : w &&& constructMask = 1#64) :
    w = constructWord (w.extractLsb' 4 2) (w.extractLsb' 16 16) (w.extractLsb' 32 16) := by
  have htop : w.extractLsb' 48 16 = 0#16 := extractLsb'_of_and_eq h (by decide)
  have hmid : w.extractLsb' 6 10 = 0#10 := extractLsb'_of_and_eq h (by decide)
  have hlow : w.extractLsb' 0 4 = 1#4 := extractLsb'_of_and_eq h (by decide)
  have hfields : w.extractLsb' 48 16 ++ w.extractLsb' 32 16 ++ w.extractLsb' 16 16 ++
      w.extractLsb' 6 10 ++ w.extractLsb' 4 2 ++ w.extractLsb' 0 4 = w := by
    simp only [BitVec.extractLsb'_append_extractLsb'_eq_extractLsb']
    exact BitVec.extractLsb'_eq_self
  rw [htop, hmid, hlow] at hfields
  exact hfields.symm

/-- A word that DECODE matches is the DECODE word of its PASS_SEL field (R236). -/
theorem eq_decodeWord {w : Word64} (h : w &&& decodeMask = 3#64) :
    w = decodeWord (w.extractLsb' 6 2) := by
  have htop : w.extractLsb' 8 56 = 0#56 := extractLsb'_of_and_eq h (by decide)
  have hlow : w.extractLsb' 0 6 = 3#6 := extractLsb'_of_and_eq h (by decide)
  have hfields : w.extractLsb' 8 56 ++ w.extractLsb' 6 2 ++ w.extractLsb' 0 6 = w := by
    simp only [BitVec.extractLsb'_append_extractLsb'_eq_extractLsb']
    exact BitVec.extractLsb'_eq_self
  rw [htop, hlow] at hfields
  exact hfields.symm

/-! ### The opcode field -/

/-- Each legal command has its own opcode (R98, R236). -/
theorem opcode_of_construct {w : Word64} (h : w &&& constructMask = 1#64) :
    w.extractLsb' 0 3 = 1#3 := extractLsb'_of_and_eq h (by decide)

theorem opcode_of_validate {w : Word64} (h : w = 2#64) : w.extractLsb' 0 3 = 2#3 := by
  rw [h]; rfl

theorem opcode_of_decode {w : Word64} (h : w &&& decodeMask = 3#64) :
    w.extractLsb' 0 3 = 3#3 := extractLsb'_of_and_eq h (by decide)

/-- Bit 2 of a command word is the top bit of its opcode: the opcodes 4 to 7 (R99). -/
theorem opcode_high_iff (w : Word64) :
    w.extractLsb' 2 1 = 1#1 ↔ 4 ≤ (w.extractLsb' 0 3).toNat := by
  have hbit : w.extractLsb' 2 1 = (w.extractLsb' 0 3).extractLsb' 2 1 :=
    (BitVec.extractLsb'_extractLsb'_of_le (by decide)).symm
  rw [hbit]
  generalize w.extractLsb' 0 3 = op
  revert op
  decide

/-- ILLEGAL_OTHER takes exactly the words that every row before it leaves (R99). -/
theorem otherIllegal_iff (w : Word64) :
    otherIllegal w = true ↔
      ¬ w &&& constructMask = 1#64 ∧ ¬ w = 2#64 ∧ ¬ w &&& decodeMask = 3#64 ∧
        ¬ w.extractLsb' 0 3 = 0#3 ∧ ¬ w.extractLsb' 2 1 = 1#1 := by
  have hop : ∀ op : BitVec 3,
      (op = 1#3 ∨ op = 2#3 ∨ op = 3#3) ↔ ¬ op = 0#3 ∧ ¬ 4 ≤ op.toNat := by decide
  have hop := hop (w.extractLsb' 0 3)
  rw [opcode_high_iff]
  simp only [otherIllegal, Bool.and_eq_true, Bool.or_eq_true, Bool.not_eq_true', beq_iff_eq,
    beq_eq_false_iff_ne, or_assoc]
  tauto

/-- A word whose opcode no legal command has is illegal by its opcode (R99, R235). -/
theorem decodeCommand_of_opcode {w : Word64} (h1 : w.extractLsb' 0 3 ≠ 1#3)
    (h2 : w.extractLsb' 0 3 ≠ 2#3) (h3 : w.extractLsb' 0 3 ≠ 3#3) :
    decodeCommand w =
      if w.extractLsb' 0 3 = 0#3 then .illegalOp0 (w.extractLsb' 3 61)
      else if w.extractLsb' 2 1 = 1#1 then .illegalOp4to7 (w.extractLsb' 3 61) (w.extractLsb' 0 2)
      else .illegalOther w := by
  unfold decodeCommand
  rw [if_neg (mt opcode_of_construct h1), if_neg (mt opcode_of_validate h2),
    if_neg (mt opcode_of_decode h3)]

/-! ### Decoding the word of each command row -/

theorem decodeCommand_constructWord (f : BitVec 2) (w h : BitVec 16) :
    decodeCommand (constructWord f w h) = .construct f w h := by
  unfold decodeCommand
  rw [if_pos (constructWord_and_mask f w h)]
  have hfmt : (0#16 ++ h ++ w ++ 0#10 ++ f ++ 1#4).extractLsb' 4 2 = f := extractLsb'_field _ f _
  have hwidth : (0#16 ++ h ++ w ++ 0#10 ++ f ++ 1#4).extractLsb' 16 16 = w := by
    rw [BitVec.extractLsb'_append_eq_of_le (by decide),
      BitVec.extractLsb'_append_eq_of_le (by decide)]
    exact extractLsb'_field _ w _
  have hheight : (0#16 ++ h ++ w ++ 0#10 ++ f ++ 1#4).extractLsb' 32 16 = h := by
    rw [BitVec.extractLsb'_append_eq_of_le (by decide),
      BitVec.extractLsb'_append_eq_of_le (by decide),
      BitVec.extractLsb'_append_eq_of_le (by decide)]
    exact extractLsb'_field _ h _
  exact congr (congrArg₂ _ hfmt hwidth) hheight

theorem decodeCommand_decodeWord (p : BitVec 2) : decodeCommand (decodeWord p) = .decode p := by
  revert p
  decide

theorem decodeCommand_illegalOp0 (rest : BitVec 61) :
    decodeCommand (rest ++ 0#3) = .illegalOp0 rest := by
  have hop : (rest ++ 0#3).extractLsb' 0 3 = 0#3 := BitVec.extractLsb'_append_eq_right
  have hrest : (rest ++ 0#3).extractLsb' 3 61 = rest := BitVec.extractLsb'_append_eq_left
  rw [decodeCommand_of_opcode (by simp [hop]) (by simp [hop]) (by simp [hop]), if_pos hop, hrest]

theorem decodeCommand_illegalOp4to7 (rest : BitVec 61) (low : BitVec 2) :
    decodeCommand (rest ++ 1#1 ++ low) = .illegalOp4to7 rest low := by
  have hbit : (rest ++ 1#1 ++ low).extractLsb' 2 1 = 1#1 := extractLsb'_field rest _ low
  have hlow : (rest ++ 1#1 ++ low).extractLsb' 0 2 = low := BitVec.extractLsb'_append_eq_right
  have hrest : (rest ++ 1#1 ++ low).extractLsb' 3 61 = rest := by
    rw [BitVec.extractLsb'_append_eq_of_le (by decide)]
    exact BitVec.extractLsb'_append_eq_left
  have hhigh := (opcode_high_iff _).1 hbit
  have hne {op : BitVec 3} (hop : op.toNat < 4) : (rest ++ 1#1 ++ low).extractLsb' 0 3 ≠ op := by
    rintro rfl
    omega
  rw [decodeCommand_of_opcode (hne (by decide)) (hne (by decide)) (hne (by decide)),
    if_neg (hne (by decide)), if_pos hbit, hlow, hrest]

theorem decodeCommand_illegalOther {w : Word64} (h : otherIllegal w = true) :
    decodeCommand w = .illegalOther w := by
  obtain ⟨hc, hv, hd, h0, h4⟩ := (otherIllegal_iff w).1 h
  unfold decodeCommand
  rw [if_neg hc, if_neg hv, if_neg hd, if_neg h0, if_neg h4]

theorem decodeBlock_append (c : Chan) (r0 r1 : Byte) (ix : BitVec 48) :
    decodeBlock c (ix ++ r1 ++ r0) = .block c r0 r1 ix := by
  have h0 : (ix ++ r1 ++ r0).extractLsb' 0 8 = r0 := BitVec.extractLsb'_append_eq_right
  have h1 : (ix ++ r1 ++ r0).extractLsb' 8 8 = r1 := extractLsb'_field ix r1 r0
  have hix : (ix ++ r1 ++ r0).extractLsb' 16 48 = ix := by
    rw [BitVec.extractLsb'_append_eq_of_le (by decide)]
    exact BitVec.extractLsb'_append_eq_left
  unfold decodeBlock
  rw [h0, h1, hix]

/-! ### Encoding a decoded code, format by format -/

theorem encode_decodeCommand (w : Word64) : encode (decodeCommand w) = .cmd w := by
  unfold decodeCommand
  split_ifs with hc hv hd h0 h4
  · rw [encode_construct, ← eq_constructWord hc]
  · exact congrArg Encoded.cmd hv.symm
  · rw [encode_decodeRow, ← eq_decodeWord hd]
  · have hfields : w.extractLsb' 3 61 ++ w.extractLsb' 0 3 = w :=
      BitVec.extractLsb'_append_extractLsb'
    exact congrArg Encoded.cmd (h0 ▸ hfields)
  · have hfields : w.extractLsb' 3 61 ++ w.extractLsb' 2 1 ++ w.extractLsb' 0 2 = w := by
      simp only [BitVec.extractLsb'_append_extractLsb'_eq_extractLsb']
      exact BitVec.extractLsb'_eq_self
    exact congrArg Encoded.cmd (h4 ▸ hfields)
  · rfl

theorem encode_decodeBlock (c : Chan) (w : Word64) : encode (decodeBlock c w) = .blk c w := by
  have hfields : w.extractLsb' 16 48 ++ w.extractLsb' 8 8 ++ w.extractLsb' 0 8 = w := by
    simp only [BitVec.extractLsb'_append_extractLsb'_eq_extractLsb']
    exact BitVec.extractLsb'_eq_self
  exact congrArg (Encoded.blk c) hfields

/-- The eight index codes (R96). -/
theorem index_cases (code : BitVec 3) :
    code = 0#3 ∨ code = 1#3 ∨ code = 2#3 ∨ code = 3#3 ∨ code = 4#3 ∨ code = 5#3 ∨ code = 6#3 ∨
    code = 7#3 := by
  revert code
  decide

theorem encode_decodeIndex (six : Bool) (c : Chan) (lane : BitVec 4) (code : BitVec 3) :
    encode (decodeIndex six c lane code) = .idx c lane code := by
  rcases index_cases code with rfl | rfl | rfl | rfl | rfl | rfl | rfl | rfl <;> cases six <;> rfl

theorem encode_decodeFormat : ∀ code : BitVec 2, encode (decodeFormat code) = .fmt code := by
  decide

theorem encode_decodePass : ∀ code : BitVec 2, encode (decodePass code) = .pass code := by
  decide

theorem encode_decodeSeq : ∀ code : BitVec 4, encode (decodeSeq code) = .seq code := by
  decide

/-- Settles O2, format by format: the fields that the decoder reads make up the whole code. -/
theorem encodeOfDecode : Obligations.EncodeOfDecode := by
  intro six e
  cases e with
  | cmd w => exact encode_decodeCommand w
  | blk c w => exact encode_decodeBlock c w
  | idx c lane code => exact encode_decodeIndex six c lane code
  | fmt code => exact encode_decodeFormat code
  | pass code => exact encode_decodePass code
  | seq code => exact encode_decodeSeq code

/-! ### Decoding an encoded row -/

/-- A row of one regime holds in that regime alone (R96). -/
theorem Instr.fits_of_regime {i : Instr} {r six : Bool} (hr : i.regime = some r)
    (h : i.fits six = true) : r = six := by
  simpa [Instr.fits, hr] using h

/-- Settles O1, row by row: a command word has the mask of its own row and of no earlier one, an
index row is read in its own regime, and the small codes are tables. -/
theorem decodeOfEncode : Obligations.DecodeOfEncode := by
  intro i six hwf hfits
  cases i with
  | construct f w h =>
    rw [encode_construct]
    exact decodeCommand_constructWord f w h
  | decode p =>
    rw [encode_decodeRow]
    exact decodeCommand_decodeWord p
  | illegalOp0 rest => exact decodeCommand_illegalOp0 rest
  | illegalOp4to7 rest low => exact decodeCommand_illegalOp4to7 rest low
  | illegalOther w => exact decodeCommand_illegalOther hwf
  | block c r0 r1 ix => exact decodeBlock_append c r0 r1 ix
  | i2Six c lane | i3Six c lane | i4Six c lane | i5Six c lane | i6Six c lane | i7Six c lane
  | i2Four c lane | i3Four c lane | i4Four c lane | i5Four c lane | i6Four c lane
  | i7Four c lane =>
    obtain rfl := Instr.fits_of_regime rfl hfits
    rfl
  | _ => rfl

/-! ### What the decoder answers -/

theorem decodeCommand_wf (w : Word64) : (decodeCommand w).wf = true := by
  unfold decodeCommand
  split_ifs with hc hv hd h0 h4
  case neg => exact (otherIllegal_iff w).2 ⟨hc, hv, hd, h0, h4⟩
  all_goals rfl

theorem decodeCommand_fits (w : Word64) (six : Bool) : (decodeCommand w).fits six = true := by
  unfold decodeCommand
  split_ifs <;> rfl

theorem decodeIndex_wf_fits (six : Bool) (c : Chan) (lane : BitVec 4) (code : BitVec 3) :
    (decodeIndex six c lane code).wf = true ∧ (decodeIndex six c lane code).fits six = true := by
  rcases index_cases code with rfl | rfl | rfl | rfl | rfl | rfl | rfl | rfl <;> cases six <;>
    exact ⟨rfl, rfl⟩

theorem decodeFormat_wf_fits : ∀ (code : BitVec 2) (six : Bool),
    (decodeFormat code).wf = true ∧ (decodeFormat code).fits six = true := by
  decide

theorem decodePass_wf_fits : ∀ (code : BitVec 2) (six : Bool),
    (decodePass code).wf = true ∧ (decodePass code).fits six = true := by
  decide

theorem decodeSeq_wf_fits : ∀ (code : BitVec 4) (six : Bool),
    (decodeSeq code).wf = true ∧ (decodeSeq code).fits six = true := by
  decide

/-- Settles O3, format by format: ILLEGAL_OTHER is tried last, and an index code is read in the
regime given. -/
theorem decodedRowsAreWellFormed : Obligations.DecodedRowsAreWellFormed := by
  intro six e
  cases e with
  | cmd w => exact ⟨decodeCommand_wf w, decodeCommand_fits w six⟩
  | blk c w => exact ⟨rfl, rfl⟩
  | idx c lane code => exact decodeIndex_wf_fits six c lane code
  | fmt code => exact decodeFormat_wf_fits code six
  | pass code => exact decodePass_wf_fits code six
  | seq code => exact decodeSeq_wf_fits code six

/-- Settles O6: each word is the code of its row, which decoding gives back. -/
theorem specWordsDecode : Obligations.SpecWordsDecode :=
  ⟨decodeOfEncode (.construct 2#2 8#16 4#16) false rfl rfl,
    decodeOfEncode .validate false rfl rfl,
    decodeOfEncode (.decode 1#2) false rfl rfl,
    decodeOfEncode (.illegalOther 0xB#64) false (by decide) rfl,
    decodeOfEncode (.block .red 200#8 100#8 0x053977FAC688#48) false rfl rfl,
    decodeOfEncode (.i5Six .red 5#4) true rfl rfl,
    decodeOfEncode (.i6Four .green 5#4) false rfl rfl,
    decodeOfEncode .fmtBc5 false rfl rfl,
    decodeOfEncode .passNormal false rfl rfl,
    decodeOfEncode .wrpix false rfl rfl⟩

end Sys2Proof
end

section
/-!
The rows of the data codes run alone: BLOCK, the index codes, the format codes and the pass codes,
with what each writes and where it stops (spec/30_encoding.md R91, R96, R100, R104; log entries 8 to
12).
-/

namespace Sys2Proof.Machine

/-! ### BLOCK (R91, R121) -/

/-- A number that fits its register is stored as it is (R264). -/
theorem fit_of_lt {w n : Nat} (h : n < 2 ^ w) : fit w n = BitVec.ofNat w n := if_pos h

/-- Settles O20: the row is `loadBlock`, whose cursor fits. -/
theorem blockRowLoadsTheBlock : Obligations.BlockRowLoadsTheBlock := by
  intro s r0 r1 ix hcur
  rw [← fit_of_lt hcur]
  exact ⟨rfl, rfl⟩

/-! ### The index codes (R96, R140 to R149) -/

/-- The 6-step regime is REF0 above REF1 (R140). -/
theorem State.six_eq_true_iff (s : State) (c : Chan) :
    s.six c = true ↔ (s.blk c).ref1.toNat < (s.blk c).ref0.toNat := by
  simp [State.six, sixStep]

theorem State.six_eq_false_iff (s : State) (c : Chan) :
    s.six c = false ↔ (s.blk c).ref0.toNat ≤ (s.blk c).ref1.toNat := by
  simp [State.six, sixStep]

/-- An index-code row in its own regime (R96). -/
theorem laneInRegime_of_eq {six : Bool} {c : Chan} {s : State} (h : s.six c = six)
    (lane : BitVec 4) (v : F32) : laneInRegime six c lane v s = .next (s.setLane c lane v) :=
  (laneInRegime_eq_next_iff _ _ _ _ _ _).2 ⟨h, rfl⟩

/-- An index-code row in the other regime (log entry 10). -/
theorem laneInRegime_of_ne {six : Bool} {c : Chan} {s : State} (h : s.six c ≠ six)
    (lane : BitVec 4) (v : F32) : laneInRegime six c lane v s = .refused .otherRegime := if_neg h

/-- Settles O25: every row of a regime goes through `laneInRegime`. -/
theorem rowsOutsideTheirRegimeStop : Obligations.RowsOutsideTheirRegimeStop := by
  intro s c lane
  refine ⟨fun hle i hi => ?_, fun hlt i hi => ?_⟩
  · have hsix : s.six c ≠ true := by simp [(s.six_eq_false_iff c).2 hle]
    simp only [List.mem_cons, List.not_mem_nil, or_false] at hi
    rcases hi with rfl | rfl | rfl | rfl | rfl | rfl <;> exact laneInRegime_of_ne hsix _ _
  · have hsix : s.six c ≠ false := by simp [(s.six_eq_true_iff c).2 hlt]
    simp only [List.mem_cons, List.not_mem_nil, or_false] at hi
    rcases hi with rfl | rfl | rfl | rfl | rfl | rfl <;> exact laneInRegime_of_ne hsix _ _

/-- A row that answers the state with one lane written writes that lane alone. -/
theorem writesLane_of_setLane {i : Instr} {c : Chan} {lane : BitVec 4} {v : F32} {s : State}
    (h : exec i s = .next (s.setLane c lane v)) : writesLane i c lane v s := by
  refine ⟨_, h, ?_, fun d j hother => ?_, ?_⟩
  · rw [State.lane_setLane, if_pos ⟨rfl, rfl⟩]
  · rw [State.lane_setLane, if_neg hother]
  · cases c <;> rfl

/-- The row that an index code decodes to, in the regime of the block, puts `interp` of that code
into its lane (R96, R147). -/
theorem exec_decodeIndex (s : State) (c : Chan) (lane : BitVec 4) (code : BitVec 3) :
    exec (decodeIndex (s.six c) c lane code) s =
      .next (s.setLane c lane (interp (s.blk c).ref0 (s.blk c).ref1 code)) := by
  have hsix : sixStep (s.blk c).ref0 (s.blk c).ref1 = s.six c := rfl
  unfold interp
  rw [hsix]
  cases h : s.six c with
  | true =>
    rcases index_cases code with rfl | rfl | rfl | rfl | rfl | rfl | rfl | rfl
    · rfl
    · rfl
    all_goals exact laneInRegime_of_eq h lane _
  | false =>
    rcases index_cases code with rfl | rfl | rfl | rfl | rfl | rfl | rfl | rfl
    · rfl
    · rfl
    all_goals exact laneInRegime_of_eq h lane _

/-- What INTERP leaves in a lane of its channel (R149). -/
theorem lane_of_interpChannel {s t : State} {c : Chan} (h : interpChannel c s = .next t)
    (i : BitVec 4) :
    t.lane c i = interp (s.blk c).ref0 (s.blk c).ref1 (idxCode (s.blk c).idx i.toNat) := by
  cases h
  simp [State.lane_setCh, interpLanes]

/-- Settles O27: both sides are `interp` of the block's code for that lane. -/
theorem interpLanesAreTheRows : Obligations.InterpLanesAreTheRows := by
  intro s t c i h
  have hinterp : interpChannel c s = .next t := by cases c <;> exact h
  rw [lane_of_interpChannel hinterp]
  exact writesLane_of_setLane (exec_decodeIndex s c i _)

/-! ### The format codes (R100, R196, R231) -/

/-- `Check` in the words of R231: the format first, then the dimensions. -/
theorem checkConfig_eq (f : BitVec 2) (w h : BitVec 16) :
    checkConfig f w h =
      if f = 0#2 ∨ f = 3#2 then some .unsupportedFormat
      else if w = 0#16 ∨ h = 0#16 ∨ w.toNat % 4 ≠ 0 ∨ h.toNat % 4 ≠ 0 then some .malformedGeometry
      else none := by
  have hf : ∀ f : BitVec 2, (f ≠ 1#2 ∧ f ≠ 2#2) ↔ (f = 0#2 ∨ f = 3#2) := by decide
  have hzero : ∀ v : BitVec 16, v.toNat = 0 ↔ v = 0#16 := fun v => BitVec.toNat_inj (y := 0#16)
  simp only [checkConfig, hf, hzero]

/-- A format code where it stands, outcome by outcome (log entries 11 and 22). -/
theorem examineFormat_eq (f : BitVec 2) (s : State) :
    examineFormat f s = .next
      (if s.seq = seqRdblkR then s.setSeq (afterRdblkR f)
       else if s.seq = seqInterpR then s.setSeq (afterInterpR f)
       else if s.seq = seqIdle ∨ s.seq = seqCheck then
         if f = 0#2 ∨ f = 3#2 then s.raise .unsupportedFormat
         else if s.width = 0#16 ∨ s.height = 0#16 ∨
             s.width.toNat % 4 ≠ 0 ∨ s.height.toNat % 4 ≠ 0 then s.raise .malformedGeometry
         else s
       else s) := by
  unfold examineFormat
  rw [checkConfig_eq]
  split_ifs <;> rfl

/-- Settles O44: the four rows are `examineFormat` of their codes. -/
theorem formatRowsActWhereTheyStand : Obligations.FormatRowsActWhereTheyStand := by
  intro s q hq
  have hrow : exec q.2 s = examineFormat q.1 s := by
    simp only [List.mem_cons, List.not_mem_nil, or_false] at hq
    rcases hq with rfl | rfl | rfl | rfl <;> rfl
  have hcheck : s.seq.toNat ≤ 1 ↔ (s.seq = seqIdle ∨ s.seq = seqCheck) := by
    generalize s.seq = code
    revert code
    decide
  rw [hrow, examineFormat_eq]
  simp only [hcheck]
  rfl

/-! ### The pass codes (R104, R163 to R167) -/

/-- The byte of +0.0 (R262). -/
theorem quant_f0 : quant f0 = 0#8 := by decide

/-- A pass result in [0.0, 1.0] goes into PIX, quantised (R167, R171). -/
theorem composeThen_of_inUnit {r : F32 × F32 × F32} (h0 : inUnit r.1 = true)
    (h1 : inUnit r.2.1 = true) (h2 : inUnit r.2.2 = true) (k : State → State) (s : State) :
    composeThen r k s = .next (k (s.setPix ⟨quant r.1, quant r.2.1, quant r.2.2⟩)) :=
  (composeThen_eq_next_iff _ _ _ _).2 ⟨_, (toPixel_eq_some_iff _ _).2 ⟨⟨h0, h1, h2⟩, rfl⟩, rfl⟩

/-- Settles O35: the three results of each pass lie in [0.0, 1.0] when the lanes of the texel do. -/
theorem passRowsComposeTheTexel : Obligations.PassRowsComposeTheTexel := by
  intro s c0 c1
  refine ⟨fun h0 h1 => ⟨?_, ?_, fun hext => ?_⟩, fun hext => ?_, rfl⟩
  · rw [← quant_f0]
    exact composeThen_of_inUnit (r := voidPass c0 c1) h0 h1 inUnit_f0 id s
  · exact composeThen_of_inUnit (r := normalPass c0 c1) h0 h1 (inUnit_clamp01 _) id s
  · exact (if_pos hext).trans (composeThen_of_inUnit (r := externalPass c0 c1)
      (inUnit_unitPattern _) (inUnit_unitPattern _) (inUnit_unitPattern _) id s)
  · exact if_neg (by simp [hext])

end Sys2Proof.Machine
end

section
/-!
The block reader: the bytes of a block as its fields, and RDBLK with and without 8 bytes remaining
(spec/40_block_reader.md R121, R123; spec/20_memory.md R63; spec/30_encoding.md R91).
-/

namespace Sys2Proof

/-! ### Little-endian words (R63) -/

theorem leNat_take_lt (bs : List Byte) (n : Nat) : leNat (bs.take n) < 256 ^ n := by
  induction n generalizing bs with
  | zero => exact Nat.one_pos
  | succ n ih =>
    cases bs with
    | nil => exact Nat.pow_pos (by decide)
    | cons b bs =>
      have hb : b.toNat < 256 := b.isLt
      have hbs := ih bs
      rw [List.take_succ_cons, leNat, Nat.pow_succ]
      omega

/-- The word of `n + 1` bytes of a stream: the first byte below the word of the others. -/
theorem leNat_take_drop_succ (stream : List Byte) (a n : Nat) (h : a < stream.length) :
    leNat ((stream.drop a).take (n + 1)) =
      (stream.getD a 0#8).toNat + 256 * leNat ((stream.drop (a + 1)).take n) := by
  rw [List.drop_eq_getElem_cons h, List.take_succ_cons, leNat, List.getD_eq_getElem _ _ h]

/-- The word of `n` bytes of a stream as a sum over its bytes. -/
theorem leNat_take_drop (stream : List Byte) (a n : Nat) (h : a + n ≤ stream.length) :
    leNat ((stream.drop a).take n) =
      ∑ k ∈ Finset.range n, (stream.getD (a + k) 0#8).toNat * 2 ^ (8 * k) := by
  induction n generalizing a with
  | zero => rfl
  | succ n ih =>
    rw [leNat_take_drop_succ stream a n (by omega), ih (a + 1) (by omega),
      Finset.sum_range_succ', Finset.mul_sum, Nat.add_comm]
    congr 1
    · refine Finset.sum_congr rfl fun k _ => ?_
      rw [show a + (k + 1) = a + 1 + k by omega, Nat.mul_succ, Nat.pow_add]
      ring
    · simp

end Sys2Proof

namespace Sys2Proof.Machine

/-! ### The fields of a block (R91) -/

/-- A word of two bytes and a rest: the bytes are the references, the rest the index field. -/
theorem blockOf_ofNat (b0 b1 : Byte) (n : Nat) :
    blockOf (BitVec.ofNat 64 (b0.toNat + 256 * (b1.toNat + 256 * n))) =
      ⟨b0, b1, BitVec.ofNat 48 n⟩ := by
  have h0 : b0.toNat < 256 := b0.isLt
  have h1 : b1.toNat < 256 := b1.isLt
  simp only [blockOf, Block.mk.injEq]
  refine ⟨BitVec.eq_of_toNat_eq ?_, BitVec.eq_of_toNat_eq ?_, BitVec.eq_of_toNat_eq ?_⟩ <;>
    simp only [BitVec.extractLsb'_toNat, BitVec.toNat_ofNat, Nat.shiftRight_eq_div_pow] <;> omega

/-- The block at an offset with 8 bytes remaining: its bytes, little-endian (R63, R91, R121). -/
theorem blockAt_eq_some (stream : List Byte) (a : Nat) (h : a + 8 ≤ stream.length) :
    blockAt stream a = some ⟨stream.getD a 0#8, stream.getD (a + 1) 0#8,
      BitVec.ofNat 48 (leNat ((stream.drop (a + 2)).take 6))⟩ := by
  rw [blockAt, streamRead, if_pos h, Option.map_some,
    leNat_take_drop_succ stream a 7 (by omega), leNat_take_drop_succ stream (a + 1) 6 (by omega),
    blockOf_ofNat]

/-! ### RDBLK (R121, R123) -/

theorem blockAt_eq_none (stream : List Byte) (a : Nat) (h : stream.length < a + 8) :
    blockAt stream a = none := by
  rw [blockAt, streamRead, if_neg (by omega), Option.map_none]

theorem readBlock_underrun (c : Chan) {s : State} (h : s.env.stream.length < s.cur.toNat + 8) :
    readBlock c s = .next (s.raise .streamUnderrun) := by
  rw [readBlock, blockAt_eq_none _ _ h]

theorem readBlock_of_blockAt (c : Chan) {s : State} {b : Block}
    (h : blockAt s.env.stream s.cur.toNat = some b) : readBlock c s = .next (s.loadBlock c b) := by
  rw [readBlock, h]

/-- The successor of a block read in one expression (R196; log entry 22). -/
theorem afterBlock_eq (c : Chan) (fmt : BitVec 2) :
    afterBlock c fmt = if c = .red ∧ fmt = 2#2 then seqRdblkG else seqInterpR := by
  cases c <;> simp [afterBlock, afterRdblkR]

/-- Settles O19: both micro-operations are `readBlock`, which raises before it reads. -/
theorem rdblkUnderruns : Obligations.RdblkUnderruns :=
  fun _ h => ⟨readBlock_underrun .red h, readBlock_underrun .green h⟩

/-- Settles O18: the block at CUR has these fields, and `loadBlock` writes BLK[c], CUR and SEQ. -/
theorem rdblkLoadsTheBlock : Obligations.RdblkLoadsTheBlock := by
  intro s c hbytes hcur
  have hread := readBlock_of_blockAt c (blockAt_eq_some _ _ hbytes)
  refine ⟨s.loadBlock c _, by cases c <;> exact hread, ?_⟩
  rw [State.blk_loadBlock, if_pos rfl, State.loadBlock_cur, State.loadBlock_seq,
    ← leNat_take_drop _ _ 6 (by omega)]
  exact ⟨rfl, rfl, Nat.mod_eq_of_lt (leNat_take_lt _ 6),
    fun d hd => by rw [State.blk_loadBlock, if_neg hd], toNat_fit 32 _ hcur,
    afterBlock_eq c s.fmt, by cases c <;> rfl⟩

/-- Bytes decode as a block exactly when they are 8, and then to their little-endian word (R109). -/
theorem decodeBytes_blk64_eq_ok_iff (c : Chan) (six : Bool) (bs : List Byte) (i : Instr) :
    decodeBytes (.blk64 c) six bs = .ok i ↔
      bs.length = 8 ∧ i = decodeBlock c (BitVec.ofNat 64 (leNat bs)) := by
  change ((wordCode bs).map (Encoded.blk c)).map (decode six) = .ok i ↔ _
  unfold wordCode
  split
  · rename_i h
    simp [Except.map, decode, h, eq_comm]
  · rename_i h
    simp [Except.map, h]

/-- Settles O21: bytes that decode are 8, so RDBLK reads the same word as the decoder. -/
theorem rdblkRunsTheBlockRow : Obligations.RdblkRunsTheBlockRow := by
  intro s i c h
  obtain ⟨hlen, rfl⟩ := (decodeBytes_blk64_eq_ok_iff _ _ _ _).1 h
  have hbytes : s.cur.toNat + 8 ≤ s.env.stream.length := by
    rw [List.length_take, List.length_drop] at hlen
    omega
  have hblock : blockAt s.env.stream s.cur.toNat =
      some (blockOf (BitVec.ofNat 64 (leNat ((s.env.stream.drop s.cur.toNat).take 8)))) := by
    rw [blockAt, streamRead, if_pos hbytes, Option.map_some]
  have hread := readBlock_of_blockAt c hblock
  cases c <;> exact hread

end Sys2Proof.Machine
end

section
/-!
Runs of the sequencer: a decode tile by tile, and its end at the first block that is missing
(spec/40_block_reader.md R123; spec/43_tile_scanner.md R196, R205; spec/60_exceptions.md R287).
-/

namespace Sys2Proof.Machine

/-! ### Runs -/

/-- A run takes its first step, then runs on. -/
theorem run_succ {M : Host.Core} {s t : M.State} (h : M.step s = .next t) (k : Nat) :
    M.run (k + 1) s = M.run k t := by
  rw [Host.Core.run, h]

theorem run_one {M : Host.Core} {s t : M.State} (h : M.step s = .next t) : M.run 1 s = .next t :=
  run_succ h 0

/-- A run continues where a shorter one ended. -/
theorem run_add {M : Host.Core} {k : Nat} {s t : M.State} (h : M.run k s = .next t) (m : Nat) :
    M.run (k + m) s = M.run m t := by
  induction k generalizing s with
  | zero =>
    cases h
    rw [Nat.zero_add]
  | succ k ih =>
    rw [Host.Core.run] at h
    cases hstep : M.step s with
    | next u =>
      rw [hstep] at h
      rw [Nat.succ_add, run_succ hstep, ih h]
    | fault r =>
      rw [hstep] at h
      cases h
    | refused r =>
      rw [hstep] at h
      cases h

/-- With no reset to come, a step uses up no level of the reset input. -/
theorem State.tick_of_noReset {s : State} (h : s.env.resetIn = []) : s.tick = s := by
  have htail : s.env.resetIn.tail = s.env.resetIn := by rw [h]; rfl
  rw [State.tick, htail]

/-- A step of a busy machine with no reset to come (R196). -/
theorem step_of_seq {s : State} {code : BitVec 4} (hreset : s.env.resetIn = [])
    (hq : s.seq = code) (hbusy : code ≠ seqIdle) : step s = exec (decodeSeq code) s := by
  have hstep := step_microOperation (s := s) (by rw [hreset]; rfl) (.inl (hq ▸ hbusy))
  rwa [State.tick_of_noReset hreset, hq] at hstep

/-! ### A decode in progress -/

/-- A decode past BEGIN, in the middle of a run without resets: what each micro-operation relies
on. -/
structure State.Decoding (s : State) : Prop where
  working : s.Working
  config : s.configLegal
  pass : passAvailable s.pass s.env.hasExtPass = true
  noReset : s.env.resetIn = []

/-- What no micro-operation past CHECK writes (R21, R22, R36). -/
structure State.SameDecode (s t : State) : Prop where
  fmt : t.fmt = s.fmt
  width : t.width = s.width
  height : t.height = s.height
  pass : t.pass = s.pass
  env : t.env = s.env

theorem State.SameDecode.refl (s : State) : s.SameDecode s := ⟨rfl, rfl, rfl, rfl, rfl⟩

theorem State.SameDecode.trans {s t u : State} (hst : s.SameDecode t) (htu : t.SameDecode u) :
    s.SameDecode u :=
  ⟨htu.fmt.trans hst.fmt, htu.width.trans hst.width, htu.height.trans hst.height,
    htu.pass.trans hst.pass, htu.env.trans hst.env⟩

theorem State.SameDecode.bpt {s t : State} (h : s.SameDecode t) : t.bpt = s.bpt := by
  rw [State.bpt, h.fmt, State.bpt]

theorem State.SameDecode.tiles {s t : State} (h : s.SameDecode t) : t.tiles = s.tiles := by
  rw [State.tiles, h.width, h.height, State.tiles]

theorem State.SameDecode.loadBlock (s : State) (c : Chan) (b : Block) :
    s.SameDecode (s.loadBlock c b) := by
  cases c <;> exact ⟨rfl, rfl, rfl, rfl, rfl⟩

/-- A decode goes on in a state of the same decode that is past BEGIN. -/
theorem State.Decoding.of_same {s t : State} (hd : s.Decoding) (h : s.SameDecode t)
    (hw : t.Working) : t.Decoding where
  working := hw
  config := by
    have := hd.config
    rwa [State.configLegal, ← h.fmt, ← h.width, ← h.height] at this
  pass := by rw [h.pass, h.env]; exact hd.pass
  noReset := by rw [h.env]; exact hd.noReset

/-! ### The blocks of a tile (R121, R123) -/

theorem State.Decoding.step_readBlock {s : State} {c : Chan} (hd : s.Decoding)
    (hq : s.readsBlock c) : step s = readBlock c s := by
  cases c <;> exact step_of_seq hd.noReset hq (by decide)

/-- A block read with 8 bytes remaining. -/
theorem State.Decoding.step_loadBlock {s : State} {c : Chan} (hd : s.Decoding)
    (hq : s.readsBlock c) (hbytes : s.cur.toNat + 8 ≤ s.env.stream.length) :
    ∃ b, step s = .next (s.loadBlock c b) ∧ (s.loadBlock c b).Decoding := by
  have hb := blockAt_eq_some _ _ hbytes
  exact ⟨_, (hd.step_readBlock hq).trans (readBlock_of_blockAt c hb),
    hd.of_same (.loadBlock s c _) (hd.working.loadBlock hq hd.config _ hb)⟩

/-- The block reads of a tile whose blocks are in the stream lead to INTERP_R. -/
theorem State.Decoding.run_loadBlocks {s : State} (hd : s.Decoding) (hq : s.seq = seqRdblkR)
    (hbytes : 8 * (s.bpt * (s.tile.toNat + 1)) ≤ s.env.stream.length) :
    ∃ t, Sys2Proof.core.run s.bpt s = .next t ∧ t.Decoding ∧ s.SameDecode t ∧
      t.tile = s.tile ∧ t.seq = seqInterpR := by
  have hcur := hd.working.cursor
  rw [State.blocksRead_of_rdblkR hq] at hcur
  rw [Nat.mul_succ] at hbytes
  have hbpt := s.bpt_range
  obtain ⟨b, hred, hd1⟩ := hd.step_loadBlock (c := .red) hq (by omega)
  have hsame1 := State.SameDecode.loadBlock s .red b
  rcases State.configLegal_fmt hd.config with ⟨hfmt, hone⟩ | ⟨hfmt, htwo⟩
  · refine ⟨_, hone ▸ run_one hred, hd1, hsame1, rfl, ?_⟩
    rw [State.loadBlock_seq, hfmt]
    rfl
  · have hq1 : (s.loadBlock .red b).readsBlock .green := by
      change (s.loadBlock .red b).seq = seqRdblkG
      rw [State.loadBlock_seq, hfmt]
      rfl
    have hread := State.blocksRead_loadBlock (c := .red) hq hd.working hd.config b
    rw [State.blocksRead_of_rdblkR hq] at hread
    have hcur1 := hd1.working.cursor
    obtain ⟨g, hgreen, hd2⟩ := hd1.step_loadBlock hq1 (by rw [State.loadBlock_env]; omega)
    exact ⟨_, htwo ▸ (run_succ hred 1).trans (run_one hgreen), hd2,
      hsame1.trans (.loadBlock _ .green g), rfl, rfl⟩

/-! ### The channels of a tile (R149, R161) -/

theorem exec_zfill (s : State) :
    exec .zfill s = .next ((s.setCh .green (Vector.replicate 16 f0)).setSeq seqTexxy) := rfl

theorem exec_interpR (s : State) :
    exec .interpR s =
      .next ((s.setCh .red (interpLanes s.blkR)).setSeq (afterInterpR s.fmt)) := rfl

theorem exec_interpG (s : State) :
    exec .interpG s = .next ((s.setCh .green (interpLanes s.blkG)).setSeq seqTexxy) := rfl

/-- A state with both channels filled. -/
theorem State.setCh_red_green (s : State) (r g : Vector F32 16) (code code' : BitVec 4) :
    (((s.setCh .red r).setSeq code).setCh .green g).setSeq code' =
      { s with chR := r, chG := g, seq := code' } := rfl

/-- INTERP_R, then INTERP_G or ZFILL: two steps that fill both channels with values of
[0.0, 1.0]. -/
theorem State.Decoding.run_fillChannels {s : State} (hd : s.Decoding) (hq : s.seq = seqInterpR) :
    ∃ r g : Vector F32 16,
      Sys2Proof.core.run 2 s = .next { s with chR := r, chG := g, seq := seqTexxy } ∧
      ∀ i : BitVec 4, inUnit (r[i.toNat]'i.isLt) = true ∧ inUnit (g[i.toNat]'i.isLt) = true := by
  have hred : step s = exec .interpR s := step_of_seq hd.noReset hq (by decide)
  rw [exec_interpR] at hred
  have hnext (code : BitVec 4) (hcode : code ≠ seqIdle) :
      step ((s.setCh .red (interpLanes s.blkR)).setSeq code) =
        exec (decodeSeq code) ((s.setCh .red (interpLanes s.blkR)).setSeq code) :=
    step_of_seq hd.noReset rfl hcode
  rcases State.configLegal_fmt hd.config with ⟨hfmt, -⟩ | ⟨hfmt, -⟩
  · rw [show afterInterpR s.fmt = seqZfill by rw [hfmt]; rfl] at hred
    have hzero := (hnext seqZfill (by decide)).trans (exec_zfill _)
    rw [State.setCh_red_green] at hzero
    exact ⟨_, _, (run_succ hred 1).trans (run_one hzero),
      fun i => ⟨inUnit_interpLanes _ i, by simp [inUnit_f0]⟩⟩
  · rw [show afterInterpR s.fmt = seqInterpG by rw [hfmt]; rfl] at hred
    have hgreen := (hnext seqInterpG (by decide)).trans (exec_interpG _)
    rw [State.setCh_red_green] at hgreen
    exact ⟨_, _, (run_succ hred 1).trans (run_one hgreen),
      fun i => ⟨inUnit_interpLanes _ i, inUnit_interpLanes _ i⟩⟩

theorem State.SameDecode.fillChannels (s : State) (r g : Vector F32 16) (code : BitVec 4) :
    s.SameDecode { s with chR := r, chG := g, seq := code } := ⟨rfl, rfl, rfl, rfl, rfl⟩

/-- With both channels filled the decode stands at the first texel of its tile. -/
theorem State.Decoding.fillChannels {s : State} (hd : s.Decoding) (hq : s.seq = seqInterpR)
    (r g : Vector F32 16) :
    State.Decoding { s with chR := r, chG := g, seq := seqTexxy } := by
  obtain ⟨htile, htex, hp⟩ := hd.working.beforeTexels (by rw [hq]; decide)
  rw [State.blocksRead_of_range (by rw [hq]; decide) (by rw [hq]; decide),
    ← show s.tex.toNat = 0 by rw [htex]; rfl] at hp
  exact hd.of_same (.fillChannels s r g _)
    (State.Progress.working_atTexel { hp with } (.inl rfl) htile (by simp +decide))

/-! ### The texels of a tile (R202, R171, R212) -/

/-- What TEXXY, COMP and WRPIX leave of one texel: its coordinates `x` and `y`, its pixel `q`. -/
def State.storeTexel (s : State) (x y : BitVec 16) (q : Pixel) : State :=
  { s with
    px := x, py := y, pix := q,
    cb := s.cb.writeMany (texelAddress s.width s.tile.toNat s.tex.toNat) (pixelBytes q),
    pixcnt := fit 32 (s.pixcnt.toNat + 1),
    tex := if s.tex.toNat < 15 then s.tex + 1#4 else s.tex,
    seq := if s.tex.toNat < 15 then seqTexxy else seqNext }

theorem exec_comp {s : State} {r : F32 × F32 × F32} {q : Pixel}
    (hpass : passFunction s.pass s.env.hasExtPass s.texelRed s.texelGreen = some r)
    (hpixel : toPixel r = some q) : exec .comp s = .next ((s.setPix q).setSeq seqWrpix) := by
  change execComp s = _
  unfold execComp
  rw [hpass]
  exact (composeThen_eq_next_iff _ _ _ _).2 ⟨q, hpixel, rfl⟩

/-- WRPIX at the pixel of the current texel (R211, R212). -/
theorem exec_wrpix {s : State} {x y : BitVec 16} (q : Pixel)
    (hx : x.toNat = tileX (tilesPerRow s.width) s.tile.toNat + texelX s.tex.toNat)
    (hy : y.toNat = tileY (tilesPerRow s.width) s.tile.toNat + texelY s.tex.toNat)
    (htile : s.tile.toNat < s.tiles) :
    exec .wrpix { s with px := x, py := y, pix := q, seq := seqWrpix } =
      .next (s.storeTexel x y q) := by
  obtain ⟨hxlt, hylt⟩ := texel_inside s.width s.height s.tile.toNat s.tex.toNat htile s.tex.isLt
  rw [← hx] at hxlt
  rw [← hy] at hylt
  rw [State.storeTexel, texelAddress, ← hx, ← hy]
  exact if_pos (by simp [State.pixelInImage, hxlt, hylt])

/-- TEXXY, COMP and WRPIX on lanes in [0.0, 1.0]: three steps that store the pixel of the texel. -/
theorem State.Decoding.run_texel {s : State} (hd : s.Decoding) (hq : s.seq = seqTexxy)
    (hl : s.lanesInUnit) :
    ∃ x y r q, passFunction s.pass s.env.hasExtPass s.texelRed s.texelGreen = some r ∧
      toPixel r = some q ∧ Sys2Proof.core.run 3 s = .next (s.storeTexel x y q) := by
  obtain ⟨htile, -⟩ := hd.working.atTexel (.inl hq)
  obtain ⟨hxlt, hylt⟩ := texel_inside s.width s.height s.tile.toNat s.tex.toNat htile s.tex.isLt
  have hxval := toNat_fit 16 _ (hxlt.trans s.width.isLt)
  have hyval := toNat_fit 16 _ (hylt.trans s.height.isLt)
  obtain ⟨r, q, hpass, hpixel⟩ := passFunction_pixel s.pass s.env.hasExtPass s.texelRed
    s.texelGreen hd.pass (hl .red s.tex) (hl .green s.tex)
  have hlocate : step s = exec .texxy s := step_of_seq hd.noReset hq (by decide)
  have hcompose (x y : BitVec 16) : step { s with px := x, py := y, seq := seqComp } =
      .next { s with px := x, py := y, pix := q, seq := seqWrpix } :=
    Eq.trans (step_of_seq (code := seqComp) hd.noReset rfl (by decide)) (exec_comp hpass hpixel)
  have hstore : step { s with px := _, py := _, pix := q, seq := seqWrpix } = _ :=
    Eq.trans (step_of_seq (code := seqWrpix) hd.noReset rfl (by decide))
      (exec_wrpix q hxval hyval htile)
  exact ⟨_, _, r, q, hpass, hpixel,
    (run_succ hlocate 2).trans ((run_succ (hcompose _ _) 1).trans (run_one hstore))⟩

theorem State.SameDecode.storeTexel (s : State) (x y : BitVec 16) (q : Pixel) :
    s.SameDecode (s.storeTexel x y q) := ⟨rfl, rfl, rfl, rfl, rfl⟩

/-- One texel more is complete (R208). -/
theorem State.Decoding.storeTexel {s : State} (hd : s.Decoding) (hq : s.seq = seqTexxy)
    (x y : BitVec 16) (q : Pixel) : (s.storeTexel x y q).Decoding := by
  obtain ⟨htile, hp⟩ := hd.working.atTexel (.inl hq)
  refine hd.of_same (.storeTexel s x y q) ?_
  unfold State.storeTexel
  by_cases htex : s.tex.toNat < 15
  · rw [if_pos htex, if_pos htex]
    have hstored := hp.store htile q (s.tex + 1#4) seqTexxy
    rw [show s.tex.toNat + 1 = (s.tex + 1#4).toNat by bv_omega] at hstored
    exact State.Progress.working_atTexel { hstored with } (.inl rfl) htile (by simp +decide)
  · rw [if_neg htex, if_neg htex]
    have hstored := hp.store htile q s.tex seqNext
    rw [show s.tex.toNat + 1 = 16 by omega] at hstored
    exact State.Progress.working_next { hstored with } rfl htile (by bv_omega)

/-- The texels from TEX to the last, three steps each, lead to NEXT. -/
theorem State.Decoding.run_texels {s : State} (m : Nat) (hd : s.Decoding) (hq : s.seq = seqTexxy)
    (hl : s.lanesInUnit) (hm : s.tex.toNat + m = 15) :
    ∃ t, Sys2Proof.core.run (3 * (m + 1)) s = .next t ∧ t.Decoding ∧ s.SameDecode t ∧
      t.tile = s.tile ∧ t.seq = seqNext := by
  induction m generalizing s with
  | zero =>
    obtain ⟨x, y, -, q, -, -, hrun⟩ := hd.run_texel hq hl
    exact ⟨_, hrun, hd.storeTexel hq x y q, .storeTexel s x y q, rfl, if_neg (by omega)⟩
  | succ m ih =>
    obtain ⟨x, y, -, q, -, -, hrun⟩ := hd.run_texel hq hl
    have htex : (s.storeTexel x y q).tex = s.tex + 1#4 := if_pos (by omega)
    obtain ⟨t, hrun', hd', hsame, htile, hnext⟩ := ih (hd.storeTexel hq x y q)
      (if_pos (by omega)) hl (by rw [htex]; bv_omega)
    refine ⟨t, ?_, hd', .trans (.storeTexel s x y q) hsame, htile, hnext⟩
    rw [show 3 * (m + 1 + 1) = 3 + 3 * (m + 1) by ring]
    exact (run_add hrun _).trans hrun'

/-! ### A tile, and all tiles (R204, R205) -/

/-- NEXT starts the next tile, or ends the decode after the last (R204). -/
theorem State.Decoding.step_nextTile {s : State} (hd : s.Decoding) (hq : s.seq = seqNext) :
    ∃ t, step s = .next t ∧ t.Decoding ∧ s.SameDecode t ∧ t.tile.toNat = s.tile.toNat + 1 ∧
      t.seq = if s.tile.toNat + 1 < s.tiles then seqRdblkR else seqFinish := by
  have htile : s.tile.toNat < s.tiles := hd.working.tileInside (by rw [hq]; decide)
  have hp : s.Progress (s.bpt * s.tile.toNat + s.bpt) 16 := by
    have hdone : s.texelsDone = 16 := by simp +decide [State.texelsDone, hq]
    have hread := s.blocksRead_of_range (by rw [hq]; decide) (by rw [hq]; decide)
    exact hread ▸ hdone ▸ hd.working.progress
  have hnew := State.toNat_nextTile htile
  refine ⟨_, step_of_seq hd.noReset hq (by decide), hd.of_same ⟨rfl, rfl, rfl, rfl, rfl⟩ ?_,
    ⟨rfl, rfl, rfl, rfl, rfl⟩, hnew, rfl⟩
  by_cases hmore : s.tile.toNat + 1 < tileCount s.width s.height
  · rw [if_pos hmore]
    refine State.Progress.working_beforeTexels ?_ (by simp +decide) (hnew.trans_lt hmore) rfl
      (by simp +decide) (by simp +decide)
    rw [State.blocksRead_of_rdblkR rfl]
    exact hp.nextTile htile _
  · rw [if_neg hmore]
    exact State.Progress.working_finish (hp.nextTile htile _) rfl
      (hnew.trans (Nat.le_antisymm htile (not_lt.1 hmore))) rfl

/-- A tile whose blocks are in the stream takes 51 + bpt steps (R325). -/
theorem State.Decoding.run_tile {s : State} (hd : s.Decoding) (hq : s.seq = seqRdblkR)
    (hbytes : 8 * (s.bpt * (s.tile.toNat + 1)) ≤ s.env.stream.length) :
    ∃ t, Sys2Proof.core.run (51 + s.bpt) s = .next t ∧ t.Decoding ∧ s.SameDecode t ∧
      t.tile.toNat = s.tile.toNat + 1 ∧
      t.seq = if s.tile.toNat + 1 < s.tiles then seqRdblkR else seqFinish := by
  obtain ⟨u, hblocks, hdu, hsu, htu, hqu⟩ := hd.run_loadBlocks hq hbytes
  obtain ⟨r, g, hfill, hlanes⟩ := hdu.run_fillChannels hqu
  have hdf := hdu.fillChannels hqu r g
  have hl : State.lanesInUnit { u with chR := r, chG := g, seq := seqTexxy } := by
    intro c i
    cases c with
    | red => exact (hlanes i).1
    | green => exact (hlanes i).2
  have htex : u.tex = 0#4 := hdu.working.texStart (.inl (by rw [hqu]; decide))
  obtain ⟨v, htexels, hdv, hsv, htv, hqv⟩ := hdf.run_texels 15 rfl hl (by rw [htex]; rfl)
  have hsame : s.SameDecode v := hsu.trans (.trans (.fillChannels u r g _) hsv)
  have htile : v.tile = s.tile := htv.trans htu
  obtain ⟨t, hnext, hdt, hst, htt, hqt⟩ := hdv.step_nextTile hqv
  rw [htile] at htt hqt
  rw [hsame.tiles] at hqt
  refine ⟨t, ?_, hdt, hsame.trans hst, htt, hqt⟩
  rw [show 51 + s.bpt = s.bpt + (2 + (48 + 1)) by ring, run_add hblocks, run_add hfill,
    run_add htexels]
  exact run_one hnext

/-- The run from the first tile to the start of tile `n`. -/
theorem State.Decoding.run_tiles {s : State} (hd : s.Decoding) (hq : s.seq = seqRdblkR)
    (hfirst : s.tile.toNat = 0) (n : Nat) (hn : n < s.tiles)
    (hbytes : 8 * (s.bpt * n) ≤ s.env.stream.length) :
    ∃ t, Sys2Proof.core.run (n * (51 + s.bpt)) s = .next t ∧ t.Decoding ∧ s.SameDecode t ∧
      t.tile.toNat = n ∧ t.seq = seqRdblkR := by
  induction n with
  | zero => exact ⟨s, by rw [Nat.zero_mul]; rfl, hd, .refl s, hfirst, hq⟩
  | succ n ih =>
    have hle : 8 * (s.bpt * n) ≤ 8 * (s.bpt * (n + 1)) := by rw [Nat.mul_succ]; omega
    obtain ⟨u, hrun, hdu, hsu, htu, hqu⟩ := ih (by omega) (hle.trans hbytes)
    obtain ⟨t, htile, hdt, hst, htt, hqt⟩ :=
      hdu.run_tile hqu (by rw [hsu.bpt, htu, hsu.env]; exact hbytes)
    rw [htu] at htt hqt
    rw [hsu.tiles, if_pos hn] at hqt
    refine ⟨t, ?_, hdt, hsu.trans hst, htt, hqt⟩
    rw [Nat.succ_mul, run_add hrun, ← hsu.bpt]
    exact htile

/-! ### The start of a decode (R197, R198, R234) -/

/-- The decode right after BEGIN, with PASS = `p` and the command's move used up. -/
def State.begun (s : State) (p : BitVec 2) (ms : List HostMove) : State :=
  { s with
    pass := p, bufValid := false, err := 0#3, seq := seqRdblkR, cur := 0#32, tile := 0#28,
    tex := 0#4, pixcnt := 0#32, passSel := p, env := { s.env with moves := ms } }

/-- CHECK passes a legal configuration with an available pass (R197). -/
theorem exec_check {s : State} (hc : s.configLegal)
    (hp : passAvailable s.passSel s.env.hasExtPass = true) :
    exec .check s = .next { s with pass := s.passSel, seq := seqBegin } := by
  change execCheck s = _
  unfold execCheck
  rw [show checkConfig s.fmt s.width s.height = none from hc]
  exact if_pos hp

/-- A DECODE that CHECK passes: the command, CHECK and BEGIN. -/
theorem run_begun {s : State} {p : BitVec 2} {w : Word64} {ms : List HostMove}
    (hq : s.seq = seqIdle) (hreset : s.env.resetIn = [])
    (hm : s.env.moves = .csrWrite 0#3 w :: ms) (hw : decodeCommand w = .decode p)
    (hc : s.configLegal) (hp : passAvailable p s.env.hasExtPass = true) :
    Sys2Proof.core.run 3 s = .next (s.begun p ms) := by
  have hcommand : step s = .next ((s.withMoves ms).startDecode p) := by
    rw [step_hostMove (by rw [hreset]; rfl) hq hm, State.tick_of_noReset hreset]
    change exec (decodeCommand w) (s.withMoves ms) = _
    rw [hw]
    exact acceptCommand_idle _ _ hq
  have hcheck : step ((s.withMoves ms).startDecode p) =
      .next { (s.withMoves ms).startDecode p with pass := p, seq := seqBegin } := by
    exact Eq.trans (step_of_seq (code := seqCheck) hreset rfl (by decide)) (exec_check hc hp)
  have hbegin : step { (s.withMoves ms).startDecode p with pass := p, seq := seqBegin } =
      .next (s.begun p ms) := step_of_seq (code := seqBegin) hreset rfl (by decide)
  exact (run_succ hcommand 2).trans ((run_succ hcheck 1).trans (run_one hbegin))

theorem State.decoding_begun {s : State} {p : BitVec 2} (ms : List HostMove)
    (hreset : s.env.resetIn = []) (hc : s.configLegal)
    (hp : passAvailable p s.env.hasExtPass = true) : (s.begun p ms).Decoding where
  working := by
    refine State.Progress.working_beforeTexels ?_ (by simp +decide [State.begun])
      (State.configLegal_tiles hc) rfl (by simp +decide [State.begun])
      (by simp +decide [State.begun])
    rw [State.blocksRead_of_rdblkR rfl]
    exact {
      bufferHidden := rfl
      noError := rfl
      cursor := by simp [State.begun]
      cursorInStream := Nat.zero_le _
      count := rfl
      earlierTiles := fun t _ ht => absurd ht (Nat.not_lt_zero t)
      thisTile := nofun }
  config := hc
  pass := hp
  noReset := hreset

/-! ### The missing block (R123, R287) -/

/-- From the start of a tile that lacks a block, the decode comes to the read of that block after at
most one step. -/
theorem State.Decoding.run_missingBlock {s : State} (hd : s.Decoding) (hq : s.seq = seqRdblkR)
    (hshort : s.env.stream.length < 8 * (s.bpt * (s.tile.toNat + 1))) :
    ∃ k t c, k ≤ 1 ∧ Sys2Proof.core.run k s = .next t ∧ t.Decoding ∧ s.SameDecode t ∧
      t.readsBlock c ∧ t.env.stream.length < t.cur.toNat + 8 := by
  by_cases hbytes : s.cur.toNat + 8 ≤ s.env.stream.length
  · have hread := hd.working.cursor
    rw [State.blocksRead_of_rdblkR hq] at hread
    rw [Nat.mul_succ] at hshort
    obtain ⟨b, hstep, hdb⟩ := hd.step_loadBlock (c := .red) hq hbytes
    have hsame := State.SameDecode.loadBlock s .red b
    have hcur := hdb.working.cursor
    rw [State.blocksRead_loadBlock (c := .red) hq hd.working hd.config,
      State.blocksRead_of_rdblkR hq] at hcur
    rcases State.configLegal_fmt hd.config with ⟨-, hone⟩ | ⟨hfmt, htwo⟩
    · omega
    · refine ⟨1, _, .green, le_rfl, run_one hstep, hdb, hsame, ?_, ?_⟩
      · change (s.loadBlock .red b).seq = seqRdblkG
        rw [State.loadBlock_seq, hfmt]
        rfl
      · rw [hsame.env]
        omega
  · exact ⟨0, s, .red, Nat.zero_le 1, rfl, hd, .refl s, hq, by omega⟩

/-- The progress registers at the read of a missing block, which the failure entry keeps (R287). -/
theorem State.Decoding.at_missingBlock {s : State} {c : Chan} (hd : s.Decoding)
    (hq : s.readsBlock c) (hshort : s.env.stream.length < s.cur.toNat + 8) :
    s.cur.toNat = 8 * (s.env.stream.length / 8) ∧
      s.tile.toNat = s.env.stream.length / 8 / s.bpt ∧ s.tex = 0#4 ∧
      s.pixcnt.toNat = 16 * s.tile.toNat := by
  have hseq : s.seq.toNat ≤ 7 := by cases c <;> rw [hq] <;> decide
  obtain ⟨-, htex, hp⟩ := hd.working.beforeTexels hseq
  have hcur := hp.cursor
  have hin := hp.cursorInStream
  have hblocks : s.env.stream.length / 8 = s.blocksRead := by omega
  refine ⟨by omega, ?_, htex, hp.count⟩
  rw [hblocks]
  cases c with
  | red =>
    rw [State.blocksRead_of_rdblkR hq, Nat.mul_div_cancel_left _ s.bpt_range.1]
  | green =>
    have hq : s.seq = seqRdblkG := hq
    have htwo : s.bpt = 2 := if_pos (hd.working.bc5States (.inl hq))
    rw [State.blocksRead, hq, htwo, if_neg (by decide), if_pos rfl]
    omega

/-- A stream too short for all tiles lacks a byte of some tile, and has all tiles before it. -/
theorem exists_shortTile {len bpt tiles : Nat} (h : len < 8 * (bpt * tiles)) :
    ∃ n, n < tiles ∧ 8 * (bpt * n) ≤ len ∧ len < 8 * (bpt * (n + 1)) := by
  have hbpt : 0 < bpt := Nat.pos_of_mul_pos_right (show 0 < bpt * tiles by omega)
  have hblocks : len / 8 < bpt * tiles := by omega
  have hlow : bpt * (len / 8 / bpt) ≤ len / 8 := Nat.mul_div_le _ _
  have hhigh : len / 8 < bpt * (len / 8 / bpt + 1) := Nat.lt_mul_div_succ _ hbpt
  exact ⟨len / 8 / bpt, Nat.div_lt_of_lt_mul hblocks, by omega, by omega⟩

/-- Settles O57: the decode runs to the tile that lacks a block, then to the read of that block,
whose failure entry keeps the progress registers. -/
theorem shortStreamUnderruns : Obligations.ShortStreamUnderruns := by
  intro s p w ms hq hreset hm hw hc hp hshort
  obtain ⟨n, hn, hbytes, hlacks⟩ := exists_shortTile hshort
  have hbegun := run_begun hq hreset hm hw hc hp
  obtain ⟨u, hrun, hdu, hsu, htu, hqu⟩ :=
    (State.decoding_begun ms hreset hc hp).run_tiles rfl rfl n hn hbytes
  obtain ⟨k, t, c, hk, hlast, hdt, hst, hqt, hmissing⟩ :=
    hdu.run_missingBlock hqu (by rw [hsu.bpt, hsu.env, htu]; exact hlacks)
  have hraise := (hdt.step_readBlock hqt).trans (readBlock_underrun c hmissing)
  have hsame := hsu.trans hst
  obtain ⟨hcur, htile, htex, hcount⟩ := hdt.at_missingBlock hqt hmissing
  rw [hsame.env] at hcur htile
  rw [hsame.bpt] at htile
  refine ⟨3 + (n * (51 + s.bpt) + (k + 1)), t.raise .streamUnderrun, ?_, ?_, rfl,
    hdt.working.bufferHidden, rfl, hsame.pass, hcur, htile, htex, hcount, hsame.fmt,
    hsame.width, hsame.height, hsame.env⟩
  · have hsteps := Nat.mul_le_mul_right (51 + s.bpt) (Nat.succ_le_of_lt hn)
    rw [Nat.succ_mul] at hsteps
    omega
  · rw [run_add hbegun]
    exact (run_add hrun _).trans ((run_add hlast 1).trans (run_one hraise))

end Sys2Proof.Machine
end

section
/-!
Binary32 by exact values: what a pattern stands for, how patterns are ordered, and how far `rnd32`
and the arithmetic primitives lie from the exact result (spec/46_numeric_primitives.md R250, R251,
R253 to R257).
-/

namespace Sys2Proof.Machine

/-! ### The exact value of a pattern (R250) -/

/-- The value of a pattern without a sign: its significand, scaled. -/
theorem floatValue_of_positive {v : F32} (h : signBit v = false) :
    floatValue v = significand v * (2 : ℚ) ^ ((scaleField v : ℤ) - 150) := by
  have hvalue : valueOf v = ⟨((magnitude v).1 : Int), (magnitude v).2⟩ := if_neg (by simp [h])
  rw [floatValue, hvalue, ratValue, magnitude]
  split
  · have hexp : (scaleField v : ℤ) - 150 = ((scaleField v - 150 : ℕ) : ℤ) := by omega
    rw [hexp, zpow_natCast]
    generalize scaleField v - 150 = k
    simp
  · have hexp : (scaleField v : ℤ) - 150 = -((150 - scaleField v : ℕ) : ℤ) := by omega
    rw [hexp, zpow_neg, zpow_natCast]
    simp [div_eq_mul_inv]

/-- A pattern without a sign, in one form for normal and subnormal values. -/
theorem toNat_eq_scaled {v : F32} (h : signBit v = false) :
    v.toNat + 2 ^ 23 = scaleField v * 2 ^ 23 + significand v := by
  have hfields := toNat_eq_fields v
  rw [h] at hfields
  unfold scaleField significand
  split <;> simp at hfields <;> omega

theorem significand_lt (v : F32) : significand v < 2 ^ 24 := by
  have := fracField_lt v
  unfold significand
  split <;> omega

/-- Above the smallest scale a significand has its hidden bit. -/
theorem scale_eq_one_or_normal (v : F32) : scaleField v = 1 ∨ 2 ^ 23 ≤ significand v := by
  unfold scaleField significand
  split <;> omega

theorem one_le_scaleField (v : F32) : 1 ≤ scaleField v := le_max_right _ _

/-- Patterns without a sign are ordered as their values. -/
theorem floatValue_lt_of_toNat_lt {v w : F32} (hv : signBit v = false) (hw : signBit w = false)
    (h : v.toNat < w.toNat) : floatValue v < floatValue w := by
  have hpv := toNat_eq_scaled hv
  have hpw := toNat_eq_scaled hw
  have hsv := significand_lt v
  have hsw := significand_lt w
  rw [floatValue_of_positive hv, floatValue_of_positive hw]
  by_cases hscale : scaleField v = scaleField w
  · rw [hscale] at hpv ⊢
    have hsig : (significand v : ℚ) < significand w := by exact_mod_cast (by omega)
    exact mul_lt_mul_of_pos_right hsig (by positivity)
  · have hnv := scale_eq_one_or_normal v
    have hnw := scale_eq_one_or_normal w
    have hv1 := one_le_scaleField v
    have hw1 := one_le_scaleField w
    have hlow : (significand v : ℚ) < 2 ^ 24 := by exact_mod_cast hsv
    have hhigh : (2 : ℚ) ^ 23 ≤ significand w := by exact_mod_cast (by omega)
    calc (significand v : ℚ) * 2 ^ ((scaleField v : ℤ) - 150)
        < 2 ^ 24 * 2 ^ ((scaleField v : ℤ) - 150) :=
          mul_lt_mul_of_pos_right hlow (by positivity)
      _ = 2 ^ 23 * 2 ^ ((scaleField v : ℤ) - 149) := by
          rw [show (scaleField v : ℤ) - 149 = (scaleField v - 150) + 1 by ring,
            zpow_add_one₀ two_ne_zero]
          ring
      _ ≤ significand w * 2 ^ ((scaleField w : ℤ) - 150) :=
          mul_le_mul hhigh (zpow_le_zpow_right₀ one_le_two (by omega)) (by positivity)
            (by positivity)

theorem valueOf_den_pos (v : F32) : 0 < (valueOf v).den := by
  have hden : (valueOf v).den = (magnitude v).2 := by unfold valueOf; split <;> rfl
  rw [hden]
  unfold magnitude
  split <;> positivity

/-! ### Rounding (R251) -/

/-- The exact value of a fraction, divided by a power of two. -/
theorem scaleDown_eq (n d : Nat) (k : Int) :
    ((scaleDown n d k).1 : ℚ) / (scaleDown n d k).2 = n / d / 2 ^ k := by
  unfold scaleDown
  split
  · obtain ⟨j, rfl⟩ := Int.eq_ofNat_of_zero_le ‹0 ≤ k›
    simp [div_div]
  · obtain ⟨j, hj⟩ := Int.eq_ofNat_of_zero_le (show 0 ≤ -k by omega)
    obtain rfl : k = -(j : ℤ) := by omega
    simp
    ring

theorem scaleDown_den_pos (n : Nat) {d : Nat} (hd : 0 < d) (k : Int) : 0 < (scaleDown n d k).2 := by
  unfold scaleDown
  split <;> positivity

theorem natLog2_bounds {n : Nat} (hn : 0 < n) :
    (2 : ℚ) ^ (n.log2 : ℤ) ≤ n ∧ (n : ℚ) < 2 ^ ((n.log2 : ℤ) + 1) := by
  have hlow := Nat.log2_self_le (n := n) (by omega)
  have hhigh := Nat.lt_log2_self (n := n)
  exact ⟨by exact_mod_cast hlow, by exact_mod_cast hhigh⟩

/-- A fraction is below `2 ^ k` when its numerator, scaled down by `k`, is below its denominator. -/
theorem scaleDown_lt_iff {n d : Nat} (hd : 0 < d) (k : Int) :
    (scaleDown n d k).1 < (scaleDown n d k).2 ↔ (n : ℚ) / d < 2 ^ k := by
  have hden : (0 : ℚ) < (scaleDown n d k).2 := by exact_mod_cast scaleDown_den_pos n hd k
  rw [← Nat.cast_lt (α := ℚ), ← div_lt_one hden, scaleDown_eq, div_lt_one (by positivity)]

theorem floorLog2_eq (n d : Nat) :
    floorLog2 n d =
      if (scaleDown n d (n.log2 - d.log2)).1 < (scaleDown n d (n.log2 - d.log2)).2
      then (n.log2 : Int) - d.log2 - 1 else (n.log2 : Int) - d.log2 := by
  simp only [floorLog2, scaleDown]
  split <;> simp

/-- The exponent of a positive fraction (R251). -/
theorem floorLog2_bounds {n d : Nat} (hn : 0 < n) (hd : 0 < d) :
    (2 : ℚ) ^ floorLog2 n d ≤ n / d ∧ (n : ℚ) / d < 2 ^ (floorLog2 n d + 1) := by
  obtain ⟨hnlow, hnhigh⟩ := natLog2_bounds hn
  obtain ⟨hdlow, hdhigh⟩ := natLog2_bounds hd
  have hdpos : (0 : ℚ) < d := by exact_mod_cast hd
  rw [floorLog2_eq]
  split <;> rename_i h <;> rw [scaleDown_lt_iff hd] at h
  · refine ⟨?_, by simpa using h⟩
    rw [le_div_iff₀ hdpos]
    calc (2 : ℚ) ^ ((n.log2 : ℤ) - d.log2 - 1) * d
        ≤ 2 ^ ((n.log2 : ℤ) - d.log2 - 1) * 2 ^ ((d.log2 : ℤ) + 1) := by gcongr
      _ = 2 ^ (n.log2 : ℤ) := by rw [← zpow_add₀ two_ne_zero]; congr 1; ring
      _ ≤ n := hnlow
  · refine ⟨not_lt.1 h, ?_⟩
    rw [div_lt_iff₀ hdpos]
    calc (n : ℚ) < 2 ^ ((n.log2 : ℤ) + 1) := hnhigh
      _ = 2 ^ ((n.log2 : ℤ) - d.log2 + 1) * 2 ^ (d.log2 : ℤ) := by
          rw [← zpow_add₀ two_ne_zero]; congr 1; ring
      _ ≤ 2 ^ ((n.log2 : ℤ) - d.log2 + 1) * d := by gcongr

/-- The nearest integer is at most one half away. -/
theorem roundNearestEven_near (n : Nat) {d : Nat} (hd : 0 < d) :
    |(roundNearestEven n d : ℚ) - n / d| ≤ 1 / 2 := by
  have hdpos : (0 : ℚ) < d := by exact_mod_cast hd
  have hmod : n % d < d := Nat.mod_lt n hd
  have hsum : (n : ℚ) = d * (n / d : ℕ) + (n % d : ℕ) := by
    exact_mod_cast (Nat.div_add_mod n d).symm
  have hdiv : (n : ℚ) / d = (n / d : ℕ) + ((n % d : ℕ) : ℚ) / d := by
    rw [hsum]
    field_simp
  have down (h : 2 * (n % d) ≤ d) : |((n / d : ℕ) : ℚ) - n / d| ≤ 1 / 2 := by
    have hrest : ((n % d : ℕ) : ℚ) / d ≤ 1 / 2 := by
      rw [div_le_div_iff₀ hdpos two_pos]
      exact_mod_cast (by omega)
    rw [hdiv, abs_le]
    constructor <;> linarith [show (0 : ℚ) ≤ ((n % d : ℕ) : ℚ) / d by positivity]
  have up (h : d ≤ 2 * (n % d)) : |((n / d + 1 : ℕ) : ℚ) - n / d| ≤ 1 / 2 := by
    have hrest : 1 / 2 ≤ ((n % d : ℕ) : ℚ) / d := by
      rw [div_le_div_iff₀ two_pos hdpos]
      exact_mod_cast (by omega)
    have hless : ((n % d : ℕ) : ℚ) / d ≤ 1 := (div_le_one hdpos).2 (by exact_mod_cast hmod.le)
    rw [hdiv, abs_le]
    push_cast
    constructor <;> linarith
  unfold roundNearestEven
  simp only
  split
  · exact down (by omega)
  · split
    · exact up (by omega)
    · split
      · exact down (by omega)
      · exact up (by omega)

/-- The pattern that `packMagnitude` forms has the value of its significand in units of
`2 ^ (e - 23)`, also when the significand has reached `2 ^ 24`. -/
theorem floatValue_packed {e : Int} {m : Nat} (he : -126 ≤ e) (hm : m ≤ 2 ^ 24)
    (hnormal : e = -126 ∨ 2 ^ 23 ≤ m) (hfinite : (e + 126).toNat * 2 ^ 23 + m < 0x7F800000) :
    signBit (packSign false (packMagnitude e m)) = false ∧
      floatValue (packSign false (packMagnitude e m)) = m * (2 : ℚ) ^ (e - 23) := by
  have hnat : (packSign false (packMagnitude e m)).toNat = (e + 126).toNat * 2 ^ 23 + m := by
    simp only [packSign, packMagnitude, Bool.false_eq_true, if_false, BitVec.toNat_ofNat]
    omega
  generalize packSign false (packMagnitude e m) = v at hnat
  have hsign : signBit v = false := by
    have := toNat_eq_fields v
    by_contra hs
    rw [Bool.not_eq_false] at hs
    rw [hs] at this
    simp at this
    omega
  have hscaled := toNat_eq_scaled hsign
  have hsig := significand_lt v
  have hcase := scale_eq_one_or_normal v
  have hone := one_le_scaleField v
  refine ⟨hsign, ?_⟩
  rw [floatValue_of_positive hsign]
  by_cases hcarry : m = 2 ^ 24
  · have hscale : (scaleField v : ℤ) - 150 = (e - 23) + 1 := by omega
    have hsigv : significand v = 2 ^ 23 := by omega
    rw [hscale, hsigv, hcarry, zpow_add_one₀ two_ne_zero]
    push_cast
    ring
  · have hscale : (scaleField v : ℤ) - 150 = e - 23 := by omega
    have hsigv : significand v = m := by omega
    rw [hscale, hsigv]

/-- A natural number at most one half away from `x` does not pass one that `x` does not pass. -/
theorem nat_le_of_near {m k : ℕ} {x : ℚ} (h : |(m : ℚ) - x| ≤ 1 / 2) (hx : x ≤ k) : m ≤ k := by
  have hlt : (m : ℚ) < k + 1 := by linarith [(abs_le.1 h).2]
  exact Nat.lt_add_one_iff.1 (by exact_mod_cast hlt)

theorem le_nat_of_near {m k : ℕ} {x : ℚ} (h : |(m : ℚ) - x| ≤ 1 / 2) (hx : k ≤ x) : k ≤ m := by
  have hlt : (k : ℚ) < m + 1 := by linarith [(abs_le.1 h).1]
  exact Nat.lt_add_one_iff.1 (by exact_mod_cast hlt)

/-- A power of two in units `2 ^ (e - 23)`. -/
theorem zpow_eq_units {e f : ℤ} {j : ℕ} (h : f = j + (e - 23)) :
    (2 : ℚ) ^ f = ((2 ^ j : ℕ) : ℚ) * 2 ^ (e - 23) := by
  rw [h, zpow_add₀ two_ne_zero, zpow_natCast]
  push_cast
  rfl

/-- The exponent in whose units a positive fraction is rounded (R251; log entry 21). -/
theorem roundExponent_bounds {n d : Nat} (hn : 0 < n) (hd : 0 < d) :
    -126 ≤ roundExponent (floorLog2 n d) ∧
      (roundExponent (floorLog2 n d) = -126 ∨
        (2 : ℚ) ^ roundExponent (floorLog2 n d) ≤ n / d) ∧
      (n : ℚ) / d < 2 ^ (roundExponent (floorLog2 n d) + 1) := by
  obtain ⟨hlow, hhigh⟩ := floorLog2_bounds hn hd
  refine ⟨le_max_right _ _, ?_, hhigh.trans_le (zpow_le_zpow_right₀ one_le_two ?_)⟩
  · rcases max_choice (floorLog2 n d) (-126) with h | h
    · exact .inr (by rwa [roundExponent, h])
    · exact .inl h
  · have := le_max_left (floorLog2 n d) (-126)
    unfold roundExponent
    omega

/-- `rnd32` of a positive value: an integer of units `2 ^ (e - 23)`, at most half a unit away, where
`2 ^ e` does not exceed the value unless it is the smallest normal one (R251). -/
theorem rnd32_scaled {n d : Nat} (hn : 0 < n) (hd : 0 < d) (hlt : (n : ℚ) / d < 2 ^ (127 : ℤ)) :
    ∃ (e : Int) (m : Nat), (e = -126 ∨ (2 : ℚ) ^ e ≤ n / d) ∧
      |(m : ℚ) - n / d / 2 ^ (e - 23)| ≤ 1 / 2 ∧ signBit (rnd32 ⟨n, d⟩) = false ∧
      floatValue (rnd32 ⟨n, d⟩) = m * (2 : ℚ) ^ (e - 23) := by
  have hpack : rnd32 ⟨n, d⟩ = packSign false (roundMagnitude n d) := by
    simp [rnd32, hn.ne', show ¬ (n : ℤ) < 0 by omega]
  rw [hpack, roundMagnitude]
  obtain ⟨hmin, hexp, hhigh⟩ := roundExponent_bounds hn hd
  generalize roundExponent (floorLog2 n d) = e at hmin hexp hhigh
  have hnear := roundNearestEven_near (scaleDown n d (e - 23)).1 (scaleDown_den_pos n hd (e - 23))
  rw [scaleDown_eq] at hnear
  generalize roundNearestEven (scaleDown n d (e - 23)).1 (scaleDown n d (e - 23)).2 = m at hnear
  have hle : m ≤ 2 ^ 24 := nat_le_of_near hnear <| by
    rw [div_le_iff₀ (by positivity), ← zpow_eq_units (f := e + 1) (by ring)]
    exact hhigh.le
  have hnormal : e = -126 ∨ 2 ^ 23 ≤ m := hexp.imp_right fun h => le_nat_of_near hnear <| by
    rwa [le_div_iff₀ (by positivity), ← zpow_eq_units (f := e) (by ring)]
  have hmax : e < 127 := by
    rcases hexp with rfl | h
    · decide
    · exact (zpow_lt_zpow_iff_right₀ (one_lt_two (α := ℚ))).1 (h.trans_lt hlt)
  exact ⟨e, m, hexp, hnear, floatValue_packed hmin hle hnormal (by omega)⟩

/-- `v` is a rounding of `x`, which is not negative and below `2 ^ 24`: it has no sign, lies as near
as one rounding leaves it, and on the same side as `x` of every natural number. -/
structure Rounded (v : F32) (x : ℚ) : Prop where
  positive : signBit v = false
  near : |floatValue v - x| ≤ max x (2 ^ (-126 : ℤ)) / 2 ^ 24
  le_nat : ∀ k : ℕ, x ≤ k → floatValue v ≤ k
  nat_le : ∀ k : ℕ, k ≤ x → k ≤ floatValue v

theorem floatValue_zero : floatValue 0#32 = 0 := by
  rw [floatValue_of_positive (by decide)]
  simp [show significand 0#32 = 0 by decide]

theorem rounded_zero : Rounded 0#32 0 where
  positive := by decide
  near := by rw [floatValue_zero]; norm_num
  le_nat := fun k hk => floatValue_zero.trans_le hk
  nat_le := fun k hk => hk.trans_eq floatValue_zero.symm

/-- An integer of units that are no larger than 1 and suit the size of `x` is a rounding of `x` when
it is the nearest one. -/
theorem rounded_of_scaled {v : F32} {x : ℚ} {e : ℤ} {m : ℕ} (he : e ≤ 23)
    (hexp : e = -126 ∨ (2 : ℚ) ^ e ≤ x) (hnear : |(m : ℚ) - x / 2 ^ (e - 23)| ≤ 1 / 2)
    (hsign : signBit v = false) (hvalue : floatValue v = m * (2 : ℚ) ^ (e - 23)) :
    Rounded v x := by
  have hunit : (0 : ℚ) < 2 ^ (e - 23) := by positivity
  obtain ⟨j, hj⟩ := Int.eq_ofNat_of_zero_le (show 0 ≤ 23 - e by omega)
  have hone : (1 : ℚ) = ((2 ^ j : ℕ) : ℚ) * 2 ^ (e - 23) := by
    rw [← zpow_eq_units (f := 0) (by omega), zpow_zero]
  have hnat (k : ℕ) : (k : ℚ) = ((k * 2 ^ j : ℕ) : ℚ) * 2 ^ (e - 23) := by
    rw [Nat.cast_mul, mul_assoc, ← hone, mul_one]
  refine ⟨hsign, ?_, fun k hk => ?_, fun k hk => ?_⟩
  · have herr : floatValue v - x = (m - x / 2 ^ (e - 23)) * 2 ^ (e - 23) := by
      rw [hvalue]
      field_simp
    have hmax : (2 : ℚ) ^ e ≤ max x (2 ^ (-126 : ℤ)) := by
      rcases hexp with rfl | h
      · exact le_max_right _ _
      · exact h.trans (le_max_left _ _)
    calc |floatValue v - x|
        = |(m : ℚ) - x / 2 ^ (e - 23)| * 2 ^ (e - 23) := by rw [herr, abs_mul, abs_of_pos hunit]
      _ ≤ 1 / 2 * 2 ^ (e - 23) := by gcongr
      _ = 2 ^ e / 2 ^ 24 := by
          rw [zpow_eq_units (e := e) (f := e) (j := 23) (by ring)]
          norm_num
          ring
      _ ≤ max x (2 ^ (-126 : ℤ)) / 2 ^ 24 := by gcongr
  · rw [hnat k] at hk ⊢
    rw [hvalue]
    gcongr
    exact nat_le_of_near hnear ((div_le_iff₀ hunit).2 hk)
  · rw [hnat k] at hk ⊢
    rw [hvalue]
    gcongr
    exact le_nat_of_near hnear ((le_div_iff₀ hunit).2 hk)

/-- `rnd32` rounds every value from 0 to `2 ^ 24` (R251). -/
theorem rounded_rnd32 {q : Ratio} (hn : 0 ≤ q.num) (hd : 0 < q.den)
    (hlt : ratValue q < 2 ^ (24 : ℤ)) : Rounded (rnd32 q) (ratValue q) := by
  obtain ⟨num, d⟩ := q
  obtain ⟨n, rfl⟩ := Int.eq_ofNat_of_zero_le hn
  have hq : ratValue ⟨n, d⟩ = (n : ℚ) / d := by simp [ratValue]
  rw [hq] at hlt ⊢
  rcases n.eq_zero_or_pos with rfl | hpos
  · simpa [rnd32] using rounded_zero
  · obtain ⟨e, m, hexp, hnear, hsign, hvalue⟩ :=
      rnd32_scaled hpos hd (hlt.trans (zpow_lt_zpow_right₀ one_lt_two (by decide)))
    have he : e ≤ 23 := by
      rcases hexp with rfl | h
      · decide
      · have := (zpow_lt_zpow_iff_right₀ (one_lt_two (α := ℚ))).1 (h.trans_lt hlt)
        omega
    exact rounded_of_scaled he hexp hnear hsign hvalue

/-! ### The arithmetic primitives (R253 to R257) -/

theorem valueOf_num_nonneg {v : F32} (h : signBit v = false) : 0 ≤ (valueOf v).num := by
  simp [valueOf, h]

theorem ratValue_ratioMul (a b : Ratio) : ratValue (ratioMul a b) = ratValue a * ratValue b := by
  simp [ratValue, ratioMul, div_mul_div_comm]

theorem ratValue_ratioAdd {a b : Ratio} (ha : 0 < a.den) (hb : 0 < b.den) :
    ratValue (ratioAdd a b) = ratValue a + ratValue b := by
  have ha' : (a.den : ℚ) ≠ 0 := Nat.cast_ne_zero.2 ha.ne'
  have hb' : (b.den : ℚ) ≠ 0 := Nat.cast_ne_zero.2 hb.ne'
  simp only [ratValue, ratioAdd, div_add_div _ _ ha' hb']
  push_cast
  ring

theorem ratValue_ratioDiv {a b : Ratio} (hb : 0 < b.num) :
    ratValue (ratioDiv a b) = ratValue a / ratValue b := by
  have habs : ((b.num.natAbs : ℕ) : ℚ) = b.num := by
    rw [Nat.cast_natAbs, abs_of_pos hb]
  simp [ratValue, ratioDiv, Int.sign_eq_one_of_pos hb, habs, div_div_div_eq]

theorem rounded_fmul {a b : F32} (ha : signBit a = false) (hb : signBit b = false)
    (hlt : floatValue a * floatValue b < 2 ^ (24 : ℤ)) :
    Rounded (fmul a b) (floatValue a * floatValue b) := by
  have hvalue := ratValue_ratioMul (valueOf a) (valueOf b)
  rw [floatValue, floatValue, ← hvalue] at hlt ⊢
  exact rounded_rnd32 (mul_nonneg (valueOf_num_nonneg ha) (valueOf_num_nonneg hb))
    (Nat.mul_pos (valueOf_den_pos a) (valueOf_den_pos b)) hlt

theorem rounded_fadd {a b : F32} (ha : signBit a = false) (hb : signBit b = false)
    (hlt : floatValue a + floatValue b < 2 ^ (24 : ℤ)) :
    Rounded (fadd a b) (floatValue a + floatValue b) := by
  have hvalue := ratValue_ratioAdd (valueOf_den_pos a) (valueOf_den_pos b)
  rw [floatValue, floatValue, ← hvalue] at hlt ⊢
  exact rounded_rnd32 (add_nonneg (mul_nonneg (valueOf_num_nonneg ha) (Int.natCast_nonneg _))
      (mul_nonneg (valueOf_num_nonneg hb) (Int.natCast_nonneg _)))
    (Nat.mul_pos (valueOf_den_pos a) (valueOf_den_pos b)) hlt

theorem rounded_fdiv {a b : F32} (ha : signBit a = false) (hb : 0 < (valueOf b).num)
    (hlt : floatValue a / floatValue b < 2 ^ (24 : ℤ)) :
    Rounded (fdiv a b) (floatValue a / floatValue b) := by
  have hvalue := ratValue_ratioDiv (a := valueOf a) hb
  rw [floatValue, floatValue, ← hvalue] at hlt ⊢
  have hnum : 0 ≤ (ratioDiv (valueOf a) (valueOf b)).num := by
    simpa [ratioDiv, Int.sign_eq_one_of_pos hb] using
      mul_nonneg (valueOf_num_nonneg ha) (Int.natCast_nonneg _)
  exact rounded_rnd32 hnum (Nat.mul_pos (valueOf_den_pos a) (Int.natAbs_pos.2 hb.ne')) hlt

/-- A rounding of a natural number is that number. -/
theorem Rounded.exact {v : F32} {k : ℕ} (h : Rounded v k) : floatValue v = k :=
  le_antisymm (h.le_nat k le_rfl) (h.nat_le k le_rfl)

/-- Integers below `2 ^ 24` are represented exactly (R253, R254). -/
theorem rounded_intToF {k : ℕ} (hk : k < 2 ^ 24) : Rounded (intToF k) k := by
  have hvalue : ratValue ⟨k, 1⟩ = k := by simp [ratValue]
  rw [← hvalue]
  exact rounded_rnd32 (Int.natCast_nonneg k) Nat.one_pos (by rw [hvalue]; exact_mod_cast hk)

/-! ### The clamp (R261) -/

/-- `clamp01` keeps a value of [0.0, 1.0]. -/
theorem clamp01_of_le_one {v : F32} (hsign : signBit v = false) (hle : floatValue v ≤ 1) :
    clamp01 v = v := by
  have hden : (0 : ℚ) < (valueOf v).den := by exact_mod_cast valueOf_den_pos v
  rw [floatValue, ratValue, div_le_one hden] at hle
  rw [clamp01, if_neg (not_lt.2 (valueOf_num_nonneg hsign)), if_neg (not_lt.2 (by exact_mod_cast hle))]

end Sys2Proof.Machine
end

section
/-!
The channel interpolator: how far every value of a ladder lies from the exact interpolation, and what
follows for the clamp, the order of the ladder and the index-code rows
(spec/41_channel_interpolator.md R140 to R150).
-/

namespace Sys2Proof.Machine

/-! ### Error bounds through the rounded operations -/

/-- `v` is a value from 0.0 to `k`, at most `err` away from `x`. -/
structure Approximates (v : F32) (x : ℚ) (k : ℕ) (err : ℚ) : Prop where
  positive : signBit v = false
  le : floatValue v ≤ k
  near : |floatValue v - x| ≤ err

/-- One rounding of a value of at most 8 adds `2 ^ (-21)` to the error. -/
theorem Rounded.approximates {v : F32} {x y err : ℚ} {k : ℕ} (h : Rounded v x) (hk : k ≤ 8)
    (hx : x ≤ k) (hxy : |x - y| ≤ err) : Approximates v y k (err + 1 / 2 ^ 21) where
  positive := h.positive
  le := h.le_nat k hx
  near := by
    have hk' : (k : ℚ) ≤ 8 := by exact_mod_cast hk
    have hmax : max x (2 ^ (-126 : ℤ)) / 2 ^ 24 ≤ 1 / 2 ^ 21 := by
      rw [div_le_div_iff₀ (by norm_num) (by norm_num), max_mul_of_nonneg _ _ (by norm_num)]
      exact max_le (by linarith) (by norm_num)
    calc |floatValue v - y| ≤ |floatValue v - x| + |x - y| := abs_sub_le _ _ _
      _ ≤ 1 / 2 ^ 21 + err := add_le_add (h.near.trans hmax) hxy
      _ = err + 1 / 2 ^ 21 := add_comm _ _

theorem approximates_intToF {k : ℕ} (hk : k < 2 ^ 24) : Approximates (intToF k) k k 0 where
  positive := (rounded_intToF hk).positive
  le := (rounded_intToF hk).exact.le
  near := by simp [(rounded_intToF hk).exact]

/-- A weighted value: `fmul` by an integer. -/
theorem Approximates.fmul_intToF {a : F32} {x err : ℚ} (ha : Approximates a x 1 err) {k : ℕ}
    (hk : k ≤ 8) :
    Approximates (fmul a (intToF k)) (x * k) k (err * k + 1 / 2 ^ 21) := by
  have hint := rounded_intToF (k := k) (by omega)
  have hle : floatValue a * k ≤ k := mul_le_of_le_one_left k.cast_nonneg (by exact_mod_cast ha.le)
  have hround := rounded_fmul ha.positive hint.positive
  rw [hint.exact] at hround
  refine (hround (hle.trans_lt ?_)).approximates hk hle ?_
  · exact_mod_cast (by omega)
  · rw [← sub_mul, abs_mul, Nat.abs_cast]
    exact mul_le_mul_of_nonneg_right ha.near k.cast_nonneg

theorem Approximates.fadd {a b : F32} {x y err err' : ℚ} {j k : ℕ} (ha : Approximates a x j err)
    (hb : Approximates b y k err') (hsum : j + k ≤ 8) :
    Approximates (fadd a b) (x + y) (j + k) (err + err' + 1 / 2 ^ 21) := by
  have hle : floatValue a + floatValue b ≤ ((j + k : ℕ) : ℚ) := by
    push_cast
    exact add_le_add ha.le hb.le
  refine (rounded_fadd ha.positive hb.positive (hle.trans_lt ?_)).approximates hsum hle ?_
  · exact_mod_cast (by omega)
  · rw [add_sub_add_comm]
    exact (abs_add_le _ _).trans (add_le_add ha.near hb.near)

/-- `fdiv` by the integer that bounds the dividend. -/
theorem Approximates.fdiv_intToF {a : F32} {x err : ℚ} {k : ℕ} (ha : Approximates a x k err)
    (hpos : 0 < k) (hk : k < 2 ^ 24) :
    Approximates (fdiv a (intToF k)) (x / k) 1 (err / k + 1 / 2 ^ 21) := by
  have hint := rounded_intToF hk
  have hk' : (0 : ℚ) < k := by exact_mod_cast hpos
  have hle : floatValue a / k ≤ ((1 : ℕ) : ℚ) := by
    rw [Nat.cast_one]
    exact (div_le_one hk').2 ha.le
  have hnum : 0 < (valueOf (intToF k)).num := by
    have hratio : 0 < ratValue (valueOf (intToF k)) := hk'.trans_eq hint.exact.symm
    have hden : (0 : ℚ) < (valueOf (intToF k)).den := by exact_mod_cast valueOf_den_pos _
    exact_mod_cast (div_pos_iff_of_pos_right hden).1 hratio
  have hround := rounded_fdiv ha.positive hnum
  rw [hint.exact] at hround
  refine (hround (hle.trans_lt (by norm_num))).approximates (by decide) hle ?_
  rw [← sub_div, abs_div, Nat.abs_cast]
  exact div_le_div_of_nonneg_right ha.near hk'.le

/-- `clamp01` keeps a value that does not exceed 1.0 (R148, R261). -/
theorem Approximates.clamp01_eq {v : F32} {x err : ℚ} (h : Approximates v x 1 err) :
    clamp01 v = v :=
  clamp01_of_le_one h.positive (by exact_mod_cast h.le)

/-- Exact values further apart than both errors keep their order. -/
theorem Approximates.toNat_lt {v w : F32} {x y err : ℚ} {j k : ℕ} (hv : Approximates v x j err)
    (hw : Approximates w y k err) (hgap : x + 2 * err < y) : v.toNat < w.toNat := by
  have hlt : floatValue v < floatValue w := by
    linarith [(abs_le.1 hv.near).2, (abs_le.1 hw.near).1]
  by_contra hge
  rcases (not_lt.1 hge).lt_or_eq with h | h
  · exact (floatValue_lt_of_toNat_lt hw.positive hv.positive h).not_gt hlt
  · exact hlt.ne' (congrArg floatValue (BitVec.eq_of_toNat_eq h))

/-! ### The values of a ladder (R140 to R144) -/

/-- The exact interpolation between the normalised references, `step` of `n` steps from REF0. -/
def ladderPoint (n : ℕ) (ref0 ref1 : Byte) (step : ℕ) : ℚ :=
  ((ref0.toNat : ℚ) / 255 * ((n - step : ℕ) : ℚ) + (ref1.toNat : ℚ) / 255 * step) / n

/-- The interior value of `ladderValue` before its clamp, with the divisor as an integer. -/
def ladderStep (n : ℕ) (ref0 ref1 : Byte) (step : ℕ) : F32 :=
  fdiv (fadd (fmul (normRef ref0) (intToF (n - step))) (fmul (normRef ref1) (intToF step)))
    (intToF n)

theorem f7_eq : f7 = intToF 7 := by decide

theorem f5_eq : f5 = intToF 5 := by decide

theorem f255_eq : f255 = intToF 255 := by decide

theorem approximates_normRef (ref : Byte) :
    Approximates (normRef ref) ((ref.toNat : ℚ) / 255) 1 (1 / 2 ^ 21) := by
  have hlt := ref.isLt
  have hbyte : Approximates (u8ToF ref) ref.toNat 255 0 :=
    { approximates_intToF (k := ref.toNat) (by omega) with
      le := (rounded_intToF (k := ref.toNat) (by omega)).exact.trans_le
        (by exact_mod_cast Nat.lt_succ_iff.1 hlt) }
  simpa [normRef, f255_eq] using hbyte.fdiv_intToF (by decide) (by decide)

theorem approximates_ladderStep {n step : ℕ} (ref0 ref1 : Byte) (hn : 0 < n) (hn8 : n ≤ 8)
    (hstep : step ≤ n) :
    Approximates (ladderStep n ref0 ref1 step) (ladderPoint n ref0 ref1 step) 1 (1 / 2 ^ 18) := by
  have hsplit : n - step + step = n := Nat.sub_add_cancel hstep
  have h0 := (approximates_normRef ref0).fmul_intToF (k := n - step) (by omega)
  have h1 := (approximates_normRef ref1).fmul_intToF (k := step) (by omega)
  have hsum := h0.fadd h1 (by omega)
  rw [hsplit] at hsum
  have hquot := hsum.fdiv_intToF hn (by omega)
  refine ⟨hquot.positive, hquot.le, hquot.near.trans ?_⟩
  have hn1 : (1 : ℚ) ≤ n := by exact_mod_cast hn
  have hparts : ((n - step : ℕ) : ℚ) = n - step := by
    rw [Nat.cast_sub hstep]
  rw [hparts, ← le_sub_iff_add_le, div_le_iff₀ (by linarith)]
  linarith

theorem sixValue_eq (ref0 ref1 : Byte) (step : ℕ) :
    sixValue ref0 ref1 (step + 1) = clamp01 (ladderStep 7 ref0 ref1 step) := by
  simp [sixValue, ladderValue, ladderStep, f7_eq]

theorem fourValue_eq (ref0 ref1 : Byte) (step : ℕ) :
    fourValue ref0 ref1 (step + 1) = clamp01 (ladderStep 5 ref0 ref1 step) := by
  simp [fourValue, ladderValue, ladderStep, f5_eq]

/-- The index code at `step` steps from REF0 on a ladder of `n` steps (R141 to R144, R150). -/
def ladderCode (n step : ℕ) : BitVec 3 :=
  if step = 0 then 0#3 else if step = n then 1#3 else BitVec.ofNat 3 (step + 1)

theorem clamp01_normRef (ref : Byte) : clamp01 (normRef ref) = normRef ref :=
  (approximates_normRef ref).clamp01_eq

theorem ladderPoint_zero {n : ℕ} (hn : 0 < n) (ref0 ref1 : Byte) :
    ladderPoint n ref0 ref1 0 = (ref0.toNat : ℚ) / 255 := by
  have : (n : ℚ) ≠ 0 := Nat.cast_ne_zero.2 hn.ne'
  simp [ladderPoint, this]

theorem ladderPoint_self {n : ℕ} (hn : 0 < n) (ref0 ref1 : Byte) :
    ladderPoint n ref0 ref1 n = (ref1.toNat : ℚ) / 255 := by
  have : (n : ℚ) ≠ 0 := Nat.cast_ne_zero.2 hn.ne'
  simp [ladderPoint, this]

/-- A normalised reference is an end of the ladder. -/
theorem approximates_refValue (ref : Byte) :
    Approximates (refValue ref) ((ref.toNat : ℚ) / 255) 1 (1 / 2 ^ 18) := by
  rw [refValue, clamp01_normRef]
  have h := approximates_normRef ref
  exact ⟨h.positive, h.le, h.near.trans (by norm_num)⟩

/-- The value of `interp` at a step of a ladder, given its interior values. -/
theorem approximates_ladder {n : ℕ} {ref0 ref1 : Byte} (hn : 0 < n) (hn8 : n ≤ 8)
    (hinterior : ∀ step, 0 < step → step < n →
      interp ref0 ref1 (BitVec.ofNat 3 (step + 1)) = clamp01 (ladderStep n ref0 ref1 step))
    {step : ℕ} (hstep : step ≤ n) :
    Approximates (interp ref0 ref1 (ladderCode n step)) (ladderPoint n ref0 ref1 step) 1
      (1 / 2 ^ 18) := by
  unfold ladderCode
  split
  · next h =>
    rw [h, ladderPoint_zero hn]
    exact approximates_refValue ref0
  · split
    · next h =>
      rw [h, ladderPoint_self hn]
      exact approximates_refValue ref1
    · have h := approximates_ladderStep ref0 ref1 hn hn8 hstep
      rw [hinterior step (by omega) (by omega), h.clamp01_eq]
      exact h

theorem interp_six {ref0 ref1 : Byte} (hsix : ref1.toNat < ref0.toNat) (step : ℕ) (hpos : 0 < step)
    (hlt : step < 7) :
    interp ref0 ref1 (BitVec.ofNat 3 (step + 1)) = clamp01 (ladderStep 7 ref0 ref1 step) := by
  have hregime : sixStep ref0 ref1 = true := decide_eq_true hsix
  rw [← sixValue_eq, interp, hregime]
  interval_cases step <;> rfl

theorem interp_four {ref0 ref1 : Byte} (hfour : ref0.toNat ≤ ref1.toNat) (step : ℕ)
    (hpos : 0 < step) (hlt : step < 5) :
    interp ref0 ref1 (BitVec.ofNat 3 (step + 1)) = clamp01 (ladderStep 5 ref0 ref1 step) := by
  have hregime : sixStep ref0 ref1 = false := decide_eq_false (not_lt.2 hfour)
  rw [← fourValue_eq, interp, hregime]
  interval_cases step <;> rfl

theorem approximates_interp_six {ref0 ref1 : Byte} (hsix : ref1.toNat < ref0.toNat) {step : ℕ}
    (hstep : step ≤ 7) :
    Approximates (interp ref0 ref1 (ladderCode 7 step)) (ladderPoint 7 ref0 ref1 step) 1
      (1 / 2 ^ 18) :=
  approximates_ladder (by decide) (by decide) (interp_six hsix) hstep

theorem approximates_interp_four {ref0 ref1 : Byte} (hfour : ref0.toNat ≤ ref1.toNat) {step : ℕ}
    (hstep : step ≤ 5) :
    Approximates (interp ref0 ref1 (ladderCode 5 step)) (ladderPoint 5 ref0 ref1 step) 1
      (1 / 2 ^ 18) :=
  approximates_ladder (by decide) (by decide) (interp_four hfour) hstep

/-- In the 4-step regime codes 6 and 7 are the anchors (R145, R146). -/
theorem interp_anchors {ref0 ref1 : Byte} (hfour : ref0.toNat ≤ ref1.toNat) :
    interp ref0 ref1 6#3 = f0 ∧ interp ref0 ref1 7#3 = f1 := by
  have hregime : sixStep ref0 ref1 = false := decide_eq_false (not_lt.2 hfour)
  unfold interp
  rw [hregime]
  exact ⟨rfl, rfl⟩

/-! ### The range of `interp` (R148) -/

theorem exists_sixStep_code :
    ∀ code : BitVec 3, ∃ step, step < 8 ∧ ladderCode 7 step = code := by decide

theorem exists_fourStep_code :
    ∀ code : BitVec 3, code = 6#3 ∨ code = 7#3 ∨ ∃ step, step < 6 ∧ ladderCode 5 step = code := by
  decide

/-- No result of `interp` has a sign. -/
theorem signBit_interp (ref0 ref1 : Byte) (code : BitVec 3) :
    signBit (interp ref0 ref1 code) = false := by
  rcases lt_or_ge ref1.toNat ref0.toNat with hsix | hfour
  · obtain ⟨step, hstep, rfl⟩ := exists_sixStep_code code
    exact (approximates_interp_six hsix (by omega)).positive
  · rcases exists_fourStep_code code with rfl | rfl | ⟨step, hstep, rfl⟩
    · rw [(interp_anchors hfour).1]
      decide
    · rw [(interp_anchors hfour).2]
      decide
    · exact (approximates_interp_four hfour (by omega)).positive

/-- A value of [0.0, 1.0] without a sign is a pattern from +0.0 to 1.0. -/
theorem toNat_le_of_inUnit {v : F32} (h : inUnit v = true) (hsign : signBit v = false) :
    v.toNat ≤ 0x3F800000 := by
  rw [inUnit, Bool.or_eq_true, decide_eq_true_eq, beq_iff_eq] at h
  refine h.resolve_right ?_
  rintro rfl
  exact absurd hsign (by decide)

/-- Settles O28: every value is an end of a ladder, an anchor or an interior value, and none
of these passes 1.0 or has a sign. -/
theorem interpNeverNeedsTheClamp : Obligations.InterpNeverNeedsTheClamp := by
  refine ⟨fun ref0 ref1 code => ?_, clamp01_normRef, fun ref0 ref1 step _ hstep _ => ?_,
    fun ref0 ref1 step _ hstep _ => ?_⟩
  · exact toNat_le_of_inUnit (inUnit_interp ref0 ref1 code) (signBit_interp ref0 ref1 code)
  · have h := approximates_ladderStep (n := 7) ref0 ref1 (by decide) (by decide)
      (hstep.trans (by decide))
    rw [f7_eq]
    exact h.clamp01_eq
  · have h := approximates_ladderStep (n := 5) ref0 ref1 (by decide) (by decide)
      (hstep.trans (by decide))
    rw [f5_eq]
    exact h.clamp01_eq

/-! ### The order of a ladder (R150) -/

/-- One step along a ladder moves by the `n`-th part of the distance of the references. -/
theorem ladderPoint_succ {n step : ℕ} (hstep : step < n) (ref0 ref1 : Byte) :
    ladderPoint n ref0 ref1 (step + 1) =
      ladderPoint n ref0 ref1 step + ((ref1.toNat : ℚ) - ref0.toNat) / (255 * n) := by
  have hn : (n : ℚ) ≠ 0 := Nat.cast_ne_zero.2 (by omega)
  rw [ladderPoint, ladderPoint, Nat.cast_sub hstep.le, Nat.cast_sub hstep]
  push_cast
  field_simp
  ring

/-- Two unequal references are further apart, also after a division by 7, than the rounded
operations can make up for. -/
theorem gap_lt {n a b : ℕ} (hn : 0 < n) (hn8 : n ≤ 8) (h : a < b) :
    2 * (1 / 2 ^ 18 : ℚ) < ((b : ℚ) - a) / (255 * n) := by
  have hn1 : (1 : ℚ) ≤ n := by exact_mod_cast hn
  have hn8' : (n : ℚ) ≤ 8 := by exact_mod_cast hn8
  have hab : (a : ℚ) + 1 ≤ b := by exact_mod_cast h
  rw [lt_div_iff₀ (by linarith)]
  linarith

/-- With REF0 above REF1 a ladder falls at each step. -/
theorem interp_six_lt {ref0 ref1 : Byte} (hsix : ref1.toNat < ref0.toNat) {step : ℕ}
    (hstep : step < 7) :
    (interp ref0 ref1 (ladderCode 7 (step + 1))).toNat <
      (interp ref0 ref1 (ladderCode 7 step)).toNat := by
  refine (approximates_interp_six hsix hstep).toNat_lt (approximates_interp_six hsix hstep.le) ?_
  have hgap := gap_lt (n := 7) (by decide) (by decide) hsix
  rw [ladderPoint_succ hstep, ← neg_sub (ref0.toNat : ℚ), neg_div]
  linarith

/-- With REF0 below REF1 a ladder rises at each step. -/
theorem interp_four_lt {ref0 ref1 : Byte} (hfour : ref0.toNat < ref1.toNat) {step : ℕ}
    (hstep : step < 5) :
    (interp ref0 ref1 (ladderCode 5 step)).toNat <
      (interp ref0 ref1 (ladderCode 5 (step + 1))).toNat := by
  refine (approximates_interp_four hfour.le hstep.le).toNat_lt
    (approximates_interp_four hfour.le hstep) ?_
  have hgap := gap_lt (n := 5) (by decide) (by decide) hfour
  rw [ladderPoint_succ hstep]
  linarith

/-- Settles O29: the codes of R150 are those of `ladderCode` in the order of the steps; in the 4-step
regime unequal references even give a strict order. -/
theorem laddersAreMonotone : Obligations.LaddersAreMonotone := by
  refine ⟨fun ref0 ref1 hsix => ?_, fun ref0 ref1 hfour => ?_⟩
  · have falls (step : ℕ) (h : step < 7) := interp_six_lt hsix h
    exact ⟨falls 6 (by decide), falls 5 (by decide), falls 4 (by decide), falls 3 (by decide),
      falls 2 (by decide), falls 1 (by decide), falls 0 (by decide)⟩
  · have rises (step : ℕ) (h : step < 5) := (interp_four_lt hfour h).le
    exact ⟨rises 0 (by decide), rises 1 (by decide), rises 2 (by decide), rises 3 (by decide),
      rises 4 (by decide)⟩

/-! ### INTERP (R149) -/

/-- The index code of a lane is three bits of the index field (R122). -/
theorem idxCode_eq (idx : BitVec 48) (i : ℕ) :
    idxCode idx i = BitVec.ofNat 3 (idx.toNat / 2 ^ (3 * i)) := by
  apply BitVec.eq_of_toNat_eq
  simp [idxCode, Nat.shiftRight_eq_div_pow]

theorem State.setRed_frame (s : State) (v : Vector F32 16) (code : BitVec 4) :
    (s.setCh .red v).setSeq code =
      { s with chR := ((s.setCh .red v).setSeq code).chR, seq := code } := rfl

theorem State.setGreen_frame (s : State) (v : Vector F32 16) (code : BitVec 4) :
    (s.setCh .green v).setSeq code =
      { s with chG := ((s.setCh .green v).setSeq code).chG, seq := code } := rfl

/-- Settles O26: both micro-operations are `interpChannel`, whose lanes are known. -/
theorem interpFillsTheChannel : Obligations.InterpFillsTheChannel := by
  intro s
  refine ⟨⟨_, exec_interpR s, fun i => ?_, s.setRed_frame _ _⟩,
    ⟨_, exec_interpG s, fun i => ?_, s.setGreen_frame _ _⟩⟩
  · rw [← idxCode_eq]
    exact lane_of_interpChannel (c := .red) (exec_interpR s) i
  · rw [← idxCode_eq]
    exact lane_of_interpChannel (c := .green) (exec_interpG s) i

/-! ### The index-code rows run alone (R141 to R146) -/

/-- Settles O22: the clamp of `refValue` keeps the normalised reference. -/
theorem indexCodesZeroAndOne : Obligations.IndexCodesZeroAndOne := by
  intro s c lane
  have exact_refValue (ref : Byte) : refValue ref = fdiv (u8ToF ref) f255 := clamp01_normRef ref
  rw [← exact_refValue, ← exact_refValue]
  exact ⟨writesLane_of_setLane rfl, writesLane_of_setLane rfl⟩

/-- Settles O23: every interior row is `laneInRegime` of a value of its ladder. -/
theorem interiorRowsWriteTheirLane : Obligations.InteriorRowsWriteTheirLane := by
  intro s c lane
  refine ⟨fun hlt => ?_, fun hle => ?_⟩
  · have row (v : F32) := laneInRegime_of_eq ((s.six_eq_true_iff c).2 hlt) lane v
    exact ⟨writesLane_of_setLane (row _), writesLane_of_setLane (row _),
      writesLane_of_setLane (row _), writesLane_of_setLane (row _),
      writesLane_of_setLane (row _), writesLane_of_setLane (row _)⟩
  · have row (v : F32) := laneInRegime_of_eq ((s.six_eq_false_iff c).2 hle) lane v
    exact ⟨writesLane_of_setLane (row _), writesLane_of_setLane (row _),
      writesLane_of_setLane (row _), writesLane_of_setLane (row _)⟩

/-- Settles O24: `interp` at codes 6 and 7, and the two rows that hold the anchors. -/
theorem anchorCodesAreExact : Obligations.AnchorCodesAreExact := by
  refine ⟨fun ref0 ref1 hle => ?_, fun s c lane hle => ?_⟩
  · obtain ⟨hsix, hseven⟩ := interp_anchors hle
    rw [hsix, hseven]
    exact ⟨rfl, rfl, by decide, by decide⟩
  · have row (v : F32) := laneInRegime_of_eq ((s.six_eq_false_iff c).2 hle) lane v
    exact ⟨rfl, rfl, writesLane_of_setLane (row f0), writesLane_of_setLane (row f1)⟩

end Sys2Proof.Machine
end

section
/-!
The channel compositor: ZFILL, COMP inside and outside its domain, and the range of the blue value
of the normal-map pass, from the sign and the bounds of each rounded operation on its way
(spec/42_channel_compositor.md R161 to R171; spec/46_numeric_primitives.md R251, R258 to R262).
-/

namespace Sys2Proof.Machine

/-! ### ZFILL (R161) -/

/-- Settles O33: the channel write of ZFILL, lane by lane. -/
theorem zfillClearsGreen : Obligations.ZfillClearsGreen := by
  intro s
  refine ⟨_, exec_zfill s, fun i => ?_, s.setGreen_frame _ _⟩
  rw [State.lane_setSeq, State.lane_setCh, if_pos rfl, Vector.getElem_replicate]
  rfl

/-! ### COMP (R162, R171; log entries 19 and 20) -/

/-- COMP with a pass whose three results lie in [0.0, 1.0] (R167, R171). -/
theorem exec_comp_of_inUnit {s : State} {r : F32 × F32 × F32}
    (hpass : passFunction s.pass s.env.hasExtPass s.texelRed s.texelGreen = some r)
    (h0 : inUnit r.1 = true) (h1 : inUnit r.2.1 = true) (h2 : inUnit r.2.2 = true) :
    exec .comp s = .next { s with pix := ⟨quant r.1, quant r.2.1, quant r.2.2⟩, seq := 10#4 } :=
  exec_comp hpass ((toPixel_eq_some_iff _ _).2 ⟨⟨h0, h1, h2⟩, rfl⟩)

/-- Settles O34: the three results of each pass lie in [0.0, 1.0] when the lanes of the texel do. -/
theorem compComposesTheTexel : Obligations.CompComposesTheTexel := by
  intro s c0 c1 nx ny blue h0 h1
  refine ⟨fun hp => ?_, fun hp => ?_, fun hp hext => ?_⟩
  · rw [← quant_f0]
    exact exec_comp_of_inUnit (r := voidPass c0 c1) (by rw [hp]; rfl) h0 h1 inUnit_f0
  · exact exec_comp_of_inUnit (r := normalPass c0 c1) (by rw [hp]; rfl) h0 h1 (inUnit_clamp01 _)
  · exact exec_comp_of_inUnit (r := externalPass c0 c1) (by rw [hp, hext]; rfl)
      (inUnit_unitPattern _) (inUnit_unitPattern _) (inUnit_unitPattern _)

/-- A pass result whose red or green value lies outside [0.0, 1.0] is refused (log entry 19). -/
theorem composeThen_of_not_inUnit {r : F32 × F32 × F32}
    (h : inUnit r.1 = false ∨ inUnit r.2.1 = false) (k : State → State) (s : State) :
    composeThen r k s = .refused .passResultOutOfRange := by
  have hnone : toPixel r = none := by
    refine Option.eq_none_iff_forall_ne_some.2 fun p hp => ?_
    obtain ⟨⟨h0, h1, -⟩, -⟩ := (toPixel_eq_some_iff r p).1 hp
    simp [h0, h1] at h
  rw [composeThen, hnone]

/-- COMP goes on with the result of the pass that PASS selects (R171). -/
theorem exec_comp_of_some {s : State} {r : F32 × F32 × F32}
    (hpass : passFunction s.pass s.env.hasExtPass s.texelRed s.texelGreen = some r) :
    exec .comp s = composeThen r (fun t => t.setSeq seqWrpix) s := by
  change execComp s = _
  rw [execComp, hpass]

/-- COMP without a pass function (R162; log entry 20). -/
theorem exec_comp_of_none {s : State}
    (hpass : passFunction s.pass s.env.hasExtPass s.texelRed s.texelGreen = none) :
    exec .comp s = .refused .noPassFunction := by
  change execComp s = _
  rw [execComp, hpass]

/-- Settles O36: no pass function, or a built-in pass that hands on a value outside [0.0, 1.0]. -/
theorem compStopsOutsideItsDomain : Obligations.CompStopsOutsideItsDomain := by
  intro s
  refine ⟨fun hpass => exec_comp_of_none ?_, fun hlane => ⟨fun hpass => ?_, ?_, ?_⟩⟩
  · rcases hpass with hp | ⟨hp, hext⟩
    · rw [hp]; rfl
    · rw [hp, hext]; rfl
  · rcases hpass with hp | hp
    · rw [exec_comp_of_some (r := voidPass s.texelRed s.texelGreen) (by rw [hp]; rfl)]
      exact composeThen_of_not_inUnit hlane _ s
    · rw [exec_comp_of_some (r := normalPass s.texelRed s.texelGreen) (by rw [hp]; rfl)]
      exact composeThen_of_not_inUnit hlane _ s
  · exact composeThen_of_not_inUnit (r := voidPass s.texelRed s.texelGreen) hlane id s
  · exact composeThen_of_not_inUnit (r := normalPass s.texelRed s.texelGreen) hlane id s

/-! ### The sign of a rounded result (R251) -/

/-- The sign bit is the highest bit of a pattern (R250). -/
theorem signBit_eq_decide (v : F32) : signBit v = decide (2 ^ 31 ≤ v.toNat) := by
  simpa [signBit, BitVec.msb_eq_getLsbD_last] using BitVec.msb_eq_decide v

/-- `rnd32` keeps the sign, and gives a zero none. -/
theorem signBit_rnd32 (q : Ratio) : signBit (rnd32 q) = decide (q.num < 0) := by
  have hpack (n d : Nat) : roundMagnitude n d ≤ 0x7F800000 := min_le_right _ _
  have hmag := hpack q.num.natAbs q.den
  rw [signBit_eq_decide, rnd32]
  split
  · next h => simp [h]
  · by_cases hneg : q.num < 0 <;> simp [packSign, hneg] <;> omega

theorem floatValue_nonneg {v : F32} (h : signBit v = false) : 0 ≤ floatValue v :=
  div_nonneg (by exact_mod_cast valueOf_num_nonneg h) (Nat.cast_nonneg _)

theorem valueOf_num_nonpos {v : F32} (h : signBit v = true) : (valueOf v).num ≤ 0 := by
  simp [valueOf, h]

theorem floatValue_nonpos {v : F32} (h : signBit v = true) : floatValue v ≤ 0 :=
  div_nonpos_of_nonpos_of_nonneg (by exact_mod_cast valueOf_num_nonpos h) (Nat.cast_nonneg _)

/-- A square has no sign, whatever the operand. -/
theorem signBit_fmul_self (a : F32) : signBit (fmul a a) = false := by
  rw [fmul, signBit_rnd32, decide_eq_false_iff_not, not_lt]
  exact mul_self_nonneg _

/-! ### Bounds that rounding keeps (R251, R258) -/

/-- Rounding does not pass 1. -/
theorem floatValue_rnd32_le_one {q : Ratio} (hd : 0 < q.den) (h : ratValue q ≤ 1) :
    floatValue (rnd32 q) ≤ 1 := by
  by_cases hneg : q.num < 0
  · exact (floatValue_nonpos (by simp [signBit_rnd32, hneg])).trans zero_le_one
  · have hround := rounded_rnd32 (not_lt.1 hneg) hd (h.trans_lt (by norm_num))
    exact_mod_cast hround.le_nat 1 (by exact_mod_cast h)

/-- Rounding does not pass a power of two that binary32 represents, from above. -/
theorem zpow_le_floatValue_rnd32 {q : Ratio} {p : ℤ} (hp : -149 ≤ p) (hd : 0 < q.den)
    (hlt : ratValue q < 2 ^ (127 : ℤ)) (h : (2 : ℚ) ^ p ≤ ratValue q) :
    (2 : ℚ) ^ p ≤ floatValue (rnd32 q) := by
  have hpos : 0 < q.num := by
    have hratio : 0 < ratValue q := (zpow_pos two_pos p).trans_le h
    have hden : (0 : ℚ) < q.den := by exact_mod_cast hd
    exact_mod_cast (div_pos_iff_of_pos_right hden).1 hratio
  obtain ⟨num, d⟩ := q
  obtain ⟨n, rfl⟩ := Int.eq_ofNat_of_zero_le hpos.le
  have hq : ratValue ⟨n, d⟩ = (n : ℚ) / d := by simp [ratValue]
  rw [hq] at h hlt
  obtain ⟨e, m, hexp, hnear, -, hvalue⟩ := rnd32_scaled (Int.natCast_pos.1 hpos) hd hlt
  -- `2 ^ p` or, where that is below one unit, the smallest normal significand, in whole units
  obtain ⟨j, hj, hle⟩ : ∃ j : ℕ, p ≤ j + (e - 23) ∧ (2 : ℚ) ^ (j + (e - 23)) ≤ n / d := by
    rcases le_or_gt (e - 23) p with hunit | hunit
    · obtain ⟨j, hj⟩ := Int.eq_ofNat_of_zero_le (sub_nonneg.2 hunit)
      obtain rfl : p = j + (e - 23) := by omega
      exact ⟨j, le_rfl, h⟩
    · refine ⟨23, by omega, ?_⟩
      rw [show ((23 : ℕ) : ℤ) + (e - 23) = e by push_cast; ring]
      exact hexp.resolve_left (by omega)
  rw [zpow_eq_units rfl, ← le_div_iff₀ (by positivity)] at hle
  calc (2 : ℚ) ^ p ≤ 2 ^ (j + (e - 23)) := zpow_le_zpow_right₀ one_le_two hj
    _ = ((2 ^ j : ℕ) : ℚ) * 2 ^ (e - 23) := zpow_eq_units rfl
    _ ≤ m * 2 ^ (e - 23) := by
        gcongr
        exact le_nat_of_near hnear hle
    _ = floatValue (rnd32 ⟨n, d⟩) := hvalue.symm

theorem ratValue_ratioSub {a b : Ratio} (ha : 0 < a.den) (hb : 0 < b.den) :
    ratValue (ratioSub a b) = ratValue a - ratValue b := by
  have ha' : (a.den : ℚ) ≠ 0 := Nat.cast_ne_zero.2 ha.ne'
  have hb' : (b.den : ℚ) ≠ 0 := Nat.cast_ne_zero.2 hb.ne'
  simp only [ratValue, ratioSub, div_sub_div _ _ ha' hb']
  push_cast
  ring

/-- What is taken from a value of at most 1 leaves at most 1. -/
theorem floatValue_fsub_le_one {a b : F32} (ha : floatValue a ≤ 1) (hb : 0 ≤ floatValue b) :
    floatValue (fsub a b) ≤ 1 := by
  refine floatValue_rnd32_le_one (Nat.mul_pos (valueOf_den_pos a) (valueOf_den_pos b)) ?_
  rw [ratValue_ratioSub (valueOf_den_pos a) (valueOf_den_pos b)]
  exact (sub_le_self _ hb).trans ha

/-- `fmax0` of a difference that is not positive is +0.0 (R258, R260). -/
theorem fmax0_fsub_of_le {a b : F32} (h : floatValue a ≤ floatValue b) : fmax0 (fsub a b) = f0 := by
  have hnum : (ratioSub (valueOf a) (valueOf b)).num ≤ 0 := by
    have hden : (0 : ℚ) < (ratioSub (valueOf a) (valueOf b)).den := by
      exact_mod_cast Nat.mul_pos (valueOf_den_pos a) (valueOf_den_pos b)
    have hratio : ratValue (ratioSub (valueOf a) (valueOf b)) ≤ 0 := by
      rw [ratValue_ratioSub (valueOf_den_pos a) (valueOf_den_pos b)]
      exact sub_nonpos.2 h
    exact not_lt.1 fun hpos => hratio.not_gt (div_pos (by exact_mod_cast hpos) hden)
  rw [fmax0, if_neg]
  · rfl
  · rw [not_lt, fsub]
    rcases hnum.lt_or_eq with hneg | hzero
    · exact valueOf_num_nonpos (by simp [signBit_rnd32, hneg])
    · rw [rnd32, if_pos hzero]
      decide

theorem floatValue_fmax0_le_one {a : F32} (h : floatValue a ≤ 1) : floatValue (fmax0 a) ≤ 1 := by
  unfold fmax0
  split
  · exact h
  · exact floatValue_zero.trans_le zero_le_one

/-! ### Values and patterns from 0.0 to 1.0 (R250, R252) -/

theorem floatValue_f1 : floatValue f1 = 1 := by
  rw [show f1 = intToF 1 by decide]
  exact_mod_cast (rounded_intToF (k := 1) (by decide)).exact

theorem floatValue_f2 : floatValue f2 = 2 := by
  rw [show f2 = intToF 2 by decide]
  exact_mod_cast (rounded_intToF (k := 2) (by decide)).exact

theorem floatValue_f255 : floatValue f255 = 255 := by
  rw [f255_eq]
  exact_mod_cast (rounded_intToF (k := 255) (by decide)).exact

theorem floatValue_half : floatValue 0x3F000000#32 = 1 / 2 := by
  rw [floatValue, show valueOf 0x3F000000#32 = ⟨2 ^ 23, 2 ^ 24⟩ by decide]
  norm_num [ratValue]

theorem signBit_of_toNat_le_one {v : F32} (h : v.toNat ≤ 0x3F800000) : signBit v = false := by
  rw [signBit_eq_decide, decide_eq_false_iff_not]
  omega

theorem toNat_le_of_floatValue_le {v w : F32} (hv : signBit v = false) (hw : signBit w = false)
    (h : floatValue v ≤ floatValue w) : v.toNat ≤ w.toNat :=
  not_lt.1 fun hlt => (floatValue_lt_of_toNat_lt hw hv hlt).not_ge h

theorem floatValue_le_of_toNat_le {v w : F32} (hv : signBit v = false) (hw : signBit w = false)
    (h : v.toNat ≤ w.toNat) : floatValue v ≤ floatValue w := by
  rcases h.lt_or_eq with hlt | heq
  · exact (floatValue_lt_of_toNat_lt hv hw hlt).le
  · exact (congrArg floatValue (BitVec.eq_of_toNat_eq heq)).le

/-! ### The square root of a value up to 1.0 (R259) -/

theorem isqrtFrom_sq_le (k r x : Nat) (h : r ^ 2 ≤ x) : isqrtFrom k r x ^ 2 ≤ x := by
  induction k generalizing r with
  | zero => exact h
  | succ k ih =>
    rw [isqrtFrom]
    split
    · next hbit => exact ih _ (by rwa [sq])
    · exact ih _ h

/-- The rounded root does not pass an integer that the exact root does not pass. -/
theorem roundSqrt_le {n d k : Nat} (hd : 0 < d) (h : n ≤ d * k ^ 2) : roundSqrt n d ≤ k := by
  have hsq : isqrt (n / d) ^ 2 ≤ n / d := isqrtFrom_sq_le 26 0 _ (Nat.zero_le _)
  unfold roundSqrt
  generalize isqrt (n / d) = r at hsq
  have down : r ≤ k := (Nat.pow_le_pow_iff_left two_ne_zero).1 <|
    hsq.trans (Nat.div_le_of_le_mul h)
  have up (hlow : d * (4 * r * r + 4 * r + 1) ≤ 4 * n) : r + 1 ≤ k := by
    have hle : d * (2 * r + 1) ^ 2 ≤ d * (2 * k) ^ 2 :=
      calc d * (2 * r + 1) ^ 2 = d * (4 * r * r + 4 * r + 1) := by ring
        _ ≤ 4 * (d * k ^ 2) := by omega
        _ = d * (2 * k) ^ 2 := by ring
    have := (Nat.pow_le_pow_iff_left two_ne_zero).1 (Nat.le_of_mul_le_mul_left hle hd)
    omega
  simp only
  split
  · exact down
  · next hlow =>
    have hup := up (not_lt.1 hlow)
    split_ifs <;> omega

theorem scaleDown_le_iff {n d : Nat} (hd : 0 < d) (k : Int) (c : Nat) :
    (scaleDown n d k).1 ≤ (scaleDown n d k).2 * c ↔ (n : ℚ) / d ≤ c * 2 ^ k := by
  have hden : (0 : ℚ) < (scaleDown n d k).2 := by exact_mod_cast scaleDown_den_pos n hd k
  rw [← Nat.cast_le (α := ℚ), Nat.cast_mul, ← div_le_iff₀' hden, scaleDown_eq,
    div_le_iff₀ (by positivity)]

/-- The exponent of a root of a value up to 1, against the value. -/
theorem sqrtExponent_bounds {n d : Nat} (hn : 0 < n) (hd : 0 < d) (hnd : (n : ℚ) / d ≤ 1) :
    roundExponent (floorLog2 n d / 2) ≤ 0 ∧
      (n : ℚ) / d ≤ 2 ^ (2 * roundExponent (floorLog2 n d / 2) + 2) := by
  obtain ⟨hlow, hhigh⟩ := floorLog2_bounds hn hd
  have hexp : floorLog2 n d ≤ 0 := by
    rw [← zpow_le_zpow_iff_right₀ (one_lt_two (α := ℚ)), zpow_zero]
    exact hlow.trans hnd
  unfold roundExponent
  exact ⟨by omega, hhigh.le.trans (zpow_le_zpow_right₀ one_le_two (by omega))⟩

/-- The root of a value up to 1 does not pass the pattern of 1.0: below exponent 0 the largest
significand carries at most into exponent 0, and at exponent 0 the value is 1. -/
theorem sqrtMagnitude_le_one {n d : Nat} (hn : 0 < n) (hd : 0 < d) (hnd : (n : ℚ) / d ≤ 1) :
    sqrtMagnitude n d ≤ 0x3F800000 := by
  obtain ⟨hzero, hhigh⟩ := sqrtExponent_bounds hn hd hnd
  have hroot (e : ℤ) (j : ℕ) (h : (n : ℚ) / d ≤ 2 ^ (2 * (j + (e - 23)))) :
      roundSqrt (scaleDown n d (2 * (e - 23))).1 (scaleDown n d (2 * (e - 23))).2 ≤ 2 ^ j := by
    refine roundSqrt_le (scaleDown_den_pos n hd _) ((scaleDown_le_iff hd _ _).2 (h.trans_eq ?_))
    rw [mul_add, zpow_add₀ two_ne_zero, mul_comm 2 (j : ℤ), zpow_mul, zpow_natCast]
    push_cast
    rfl
  rw [sqrtMagnitude]
  generalize roundExponent (floorLog2 n d / 2) = e at hzero hhigh
  refine (min_le_left _ _).trans ?_
  rcases hzero.lt_or_eq with hneg | rfl
  · have := hroot e 24 (hhigh.trans_eq (by congr 1; ring))
    omega
  · have := hroot 0 23 (by simpa using hnd)
    omega

/-- The root of a value of at most 1.0, a negative one included, is a value from 0.0 to 1.0. -/
theorem toNat_fsqrt_le_one {a : F32} (h : floatValue a ≤ 1) : (fsqrt a).toNat ≤ 0x3F800000 := by
  unfold fsqrt
  split
  · decide
  · next hpos =>
    have hnum : (((valueOf a).num.natAbs : ℕ) : ℚ) = (valueOf a).num := by
      rw [Nat.cast_natAbs, abs_of_pos (not_le.1 hpos)]
    rw [BitVec.toNat_ofNat]
    exact (Nat.mod_le _ _).trans <| sqrtMagnitude_le_one
      (Int.natAbs_pos.2 (not_le.1 hpos).ne') (valueOf_den_pos a) (by rwa [hnum])

/-! ### `quant` (R262) -/

theorem floorNat_valueOf {v : F32} (h : signBit v = false) :
    floorNat (valueOf v) = ⌊floatValue v⌋₊ := by
  obtain ⟨n, hn⟩ := Int.eq_ofNat_of_zero_le (valueOf_num_nonneg h)
  rw [floatValue, ratValue, floorNat, hn]
  exact (Nat.floor_div_eq_div n _).symm

/-- The byte of a value from 0.0 to 1.0 is not below a number that the exact product with 255 is
not below. -/
theorem le_toNat_quant {v : F32} {k : ℕ} (hsign : signBit v = false) (hle : floatValue v ≤ 1)
    (hk : k ≤ floatValue v * 255) : k ≤ (quant v).toNat := by
  have hprod : floatValue v * 255 ≤ ((255 : ℕ) : ℚ) := by push_cast; linarith
  have hround := rounded_fmul hsign (b := f255) (by decide)
  rw [floatValue_f255] at hround
  replace hround := hround (hprod.trans_lt (by norm_num))
  have hhigh : ⌊floatValue (fmul v f255)⌋₊ ≤ 255 := Nat.floor_le_of_le (hround.le_nat 255 hprod)
  rw [quant, floorNat_valueOf hround.positive, BitVec.toNat_ofNat, Nat.mod_eq_of_lt (by omega)]
  exact Nat.le_floor (hround.nat_le k hk)

/-! ### The blue value of the normal-map pass (R164, R165) -/

/-- The square of a component of the normal, rebuilt from its channel value. -/
def normalSquare (c : F32) : F32 :=
  fmul (fsub (fmul f2 c) f1) (fsub (fmul f2 c) f1)

/-- What is left for the square of the Z component. -/
def normalRadicand (c0 c1 : F32) : F32 := fsub (fsub f1 (normalSquare c0)) (normalSquare c1)

theorem normalBlue_eq (c0 c1 : F32) :
    normalBlue c0 c1 = clamp01 (fdiv (fadd (fsqrt (fmax0 (normalRadicand c0 c1))) f1) f2) := rfl

theorem floatValue_one_sub_normalSquare_le (c : F32) : floatValue (fsub f1 (normalSquare c)) ≤ 1 :=
  floatValue_fsub_le_one floatValue_f1.le (floatValue_nonneg (signBit_fmul_self _))

theorem floatValue_normalRadicand_le_one (c0 c1 : F32) : floatValue (normalRadicand c0 c1) ≤ 1 :=
  floatValue_fsub_le_one (floatValue_one_sub_normalSquare_le c0)
    (floatValue_nonneg (signBit_fmul_self _))

/-- The Z component lies in [0.0, 1.0]. -/
theorem toNat_normalZ_le_one (c0 c1 : F32) :
    (fsqrt (fmax0 (normalRadicand c0 c1))).toNat ≤ 0x3F800000 :=
  toNat_fsqrt_le_one (floatValue_fmax0_le_one (floatValue_normalRadicand_le_one c0 c1))

/-- `(z + 1) / 2` lies in [0.5, 1.0] for a value `z` of [0.0, 1.0]. -/
theorem halfSum_bounds {z : F32} (h : z.toNat ≤ 0x3F800000) :
    signBit (fdiv (fadd z f1) f2) = false ∧ 1 / 2 ≤ floatValue (fdiv (fadd z f1) f2) ∧
      floatValue (fdiv (fadd z f1) f2) ≤ 1 := by
  have hz := signBit_of_toNat_le_one h
  have hz0 := floatValue_nonneg hz
  have hz1 : floatValue z ≤ 1 :=
    (floatValue_le_of_toNat_le hz (w := f1) (by decide) h).trans_eq floatValue_f1
  have hsum := rounded_fadd hz (b := f1) (by decide)
  rw [floatValue_f1] at hsum
  replace hsum := hsum ((by linarith : floatValue z + 1 ≤ 2).trans_lt (by norm_num))
  have hlow : 1 ≤ floatValue (fadd z f1) := by
    exact_mod_cast hsum.nat_le 1 (by push_cast; linarith)
  have hhigh : floatValue (fadd z f1) ≤ 2 := by
    exact_mod_cast hsum.le_nat 2 (by push_cast; linarith)
  generalize fadd z f1 = v at hsum hlow hhigh
  have hquot := rounded_fdiv hsum.positive (b := f2) (by decide)
  rw [floatValue_f2] at hquot
  replace hquot := hquot ((by linarith : floatValue v / 2 ≤ 1).trans_lt (by norm_num))
  have hratio : ratValue (ratioDiv (valueOf v) (valueOf f2)) = floatValue v / 2 := by
    rw [ratValue_ratioDiv (by decide), ← floatValue_f2]
    rfl
  refine ⟨hquot.positive, ?_, by exact_mod_cast hquot.le_nat 1 (by push_cast; linarith)⟩
  have hhalf := zpow_le_floatValue_rnd32 (q := ratioDiv (valueOf v) (valueOf f2)) (p := -1)
    (by decide) (Nat.mul_pos (valueOf_den_pos v) (by decide))
    (by rw [hratio]; exact (by linarith : floatValue v / 2 ≤ 1).trans_lt (by norm_num))
    (by rw [hratio]; norm_num; linarith)
  rw [zpow_neg_one, ← one_div] at hhalf
  exact hhalf

/-- The blue value lies in [0.5, 1.0] for all operands: no square has a sign, so the radicand does
not pass 1. -/
theorem normalBlue_bounds (c0 c1 : F32) :
    signBit (normalBlue c0 c1) = false ∧ 1 / 2 ≤ floatValue (normalBlue c0 c1) ∧
      floatValue (normalBlue c0 c1) ≤ 1 := by
  obtain ⟨hsign, hlow, hle⟩ := halfSum_bounds (toNat_normalZ_le_one c0 c1)
  rw [normalBlue_eq, clamp01_of_le_one hsign hle]
  exact ⟨hsign, hlow, hle⟩

/-- Settles O37: the bounds of the exact value, as patterns and through `quant`. -/
theorem normalBlueIsInTheUpperHalf : Obligations.NormalBlueIsInTheUpperHalf := by
  intro c0 c1 _ _
  obtain ⟨hsign, hlow, hhigh⟩ := normalBlue_bounds c0 c1
  refine ⟨?_, ?_, le_toNat_quant hsign hhigh (by push_cast; linarith)⟩
  · exact toNat_le_of_floatValue_le (v := 0x3F000000#32) (by decide) hsign
      (floatValue_half.trans_le hlow)
  · exact toNat_le_of_floatValue_le (w := f1) hsign (by decide) (hhigh.trans_eq floatValue_f1.symm)

theorem normalSquare_zero : normalSquare 0x00000000#32 = f1 := by decide

/-- Settles O38: green 0.0 takes the whole of the square, so the Z component is 0.0. -/
theorem normalPassOnBc4 : Obligations.NormalPassOnBc4 := by
  intro c0 _
  have hz : fmax0 (normalRadicand c0 0x00000000#32) = f0 := by
    rw [normalRadicand, normalSquare_zero]
    exact fmax0_fsub_of_le ((floatValue_one_sub_normalSquare_le c0).trans_eq floatValue_f1.symm)
  have hblue : normalBlue c0 0x00000000#32 = 0x3F000000#32 := by
    rw [normalBlue_eq, hz]
    decide
  rw [hblue]
  decide

end Sys2Proof.Machine
end

section
/-!
The tile scanner: which pixel a texel of a tile is, the sequencer's own micro-operations CHECK,
BEGIN, TEXXY, NEXT and FINISH, and the DECODE that CHECK rejects
(spec/43_tile_scanner.md R190 to R206; spec/44_pixel_write_buffer.md R211;
spec/45_host_commands.md R234).
-/

namespace Sys2Proof.Machine

/-! ### Texels and entries of an image (R191, R192, R194, R211) -/

/-- The tile and the texel of a pixel, read off its coordinates (R213). -/
theorem texel_of_coordinates {w h : BitVec 16} {t i : Nat} (ht : t < tileCount w h) (hi : i < 16) :
    (tileY (tilesPerRow w) t + texelY i) / 4 * tilesPerRow w +
        (tileX (tilesPerRow w) t + texelX i) / 4 = t ∧
      4 * ((tileY (tilesPerRow w) t + texelY i) % 4) +
        (tileX (tilesPerRow w) t + texelX i) % 4 = i := by
  have hpos := tilesPerRow_pos w h t ht
  rw [tileX, tileY, modNat_pos _ _ hpos, divNat_pos _ _ hpos, texelX, texelY]
  refine ⟨?_, by omega⟩
  rw [show (4 * (t / tilesPerRow w) + i / 4) / 4 = t / tilesPerRow w by omega,
    show (4 * (t % tilesPerRow w) + i % 4) / 4 = t % tilesPerRow w by omega, Nat.div_add_mod']

/-- A pixel of a row of the image is found again in its entry (R211). -/
theorem pixEntry_div_mod {w x : Nat} (y : Nat) (hx : x < w) :
    pixEntry w x y / w = y ∧ pixEntry w x y % w = x := by
  have hpos : 0 < w := Nat.zero_lt_of_lt hx
  rw [pixEntry, Nat.mul_comm, Nat.mul_add_div hpos, Nat.mul_add_mod, Nat.div_eq_of_lt hx,
    Nat.mod_eq_of_lt hx]
  exact ⟨rfl, rfl⟩

/-- A pixel of the image has its entry inside the buffer (R211). -/
theorem pixEntry_lt {w h x y : Nat} (hx : x < w) (hy : y < h) : pixEntry w x y < w * h :=
  calc pixEntry w x y = w * y + x := by rw [pixEntry, Nat.mul_comm]
    _ < w * (y + 1) := by rw [Nat.mul_succ]; omega
    _ ≤ w * h := Nat.mul_le_mul_left w hy

/-- Different texels of an image have different entries (R194). -/
theorem texelAddress_inj {w h : BitVec 16} {t i t' i' : Nat} (ht : t < tileCount w h) (hi : i < 16)
    (ht' : t' < tileCount w h) (hi' : i' < 16)
    (heq : texelAddress w t i = texelAddress w t' i') : t = t' ∧ i = i' := by
  obtain ⟨hx, -⟩ := texel_inside w h t i ht hi
  obtain ⟨hx', -⟩ := texel_inside w h t' i' ht' hi'
  have hentry := Nat.eq_of_mul_eq_mul_left (by decide : 0 < 3) heq
  obtain ⟨hrow, hcol⟩ := pixEntry_div_mod (tileY (tilesPerRow w) t + texelY i) hx
  obtain ⟨hrow', hcol'⟩ := pixEntry_div_mod (tileY (tilesPerRow w) t' + texelY i') hx'
  rw [hentry, hrow'] at hrow
  rw [hentry, hcol'] at hcol
  obtain ⟨htile, htexel⟩ := texel_of_coordinates ht hi
  obtain ⟨htile', htexel'⟩ := texel_of_coordinates ht' hi'
  rw [← hrow, ← hcol] at htile htexel
  exact ⟨htile.symm.trans htile', htexel.symm.trans htexel'⟩

/-- Entries at different addresses do not overlap (R211). -/
theorem texelAddress_apart {w : BitVec 16} {t i t' i' : Nat}
    (h : texelAddress w t i ≠ texelAddress w t' i') :
    texelAddress w t i + 3 ≤ texelAddress w t' i' ∨
      texelAddress w t' i' + 3 ≤ texelAddress w t i := by
  unfold texelAddress pixAddr at h ⊢
  omega

/-- Settles O46: an entry is a pixel, a pixel is a texel, and no two texels share an entry. -/
theorem everyEntryHasOneTexel : Obligations.EveryEntryHasOneTexel := by
  intro w h hw hh
  refine ⟨fun t i ht hi => ?_, fun e he => ?_⟩
  · obtain ⟨hx, hy⟩ := texel_inside w h t i ht hi
    exact ⟨_, pixEntry_lt hx hy, rfl⟩
  · have hbyte : 3 * e < bufferSize w h := by rw [bufferSize, Nat.mul_assoc]; omega
    obtain ⟨t, i, ht, hi, haddress⟩ := exists_texelAddress w h (3 * e) hw hh hbyte
    have hentry : texelAddress w t i = 3 * e := by omega
    refine ⟨(t, i), ⟨ht, hi, hentry⟩, ?_⟩
    rintro ⟨t', i'⟩ ⟨ht', hi', hentry'⟩
    exact Prod.ext_iff.2 (texelAddress_inj ht' hi' ht hi (hentry'.trans hentry.symm))

/-! ### TEXXY, NEXT, BEGIN and FINISH (R198, R202, R204, R206) -/

/-- Settles O41: on a tile of the image the two coordinates lie in the image, so they fit. -/
theorem texxyGivesThePixel : Obligations.TexxyGivesThePixel := by
  intro s
  refine ⟨_, rfl, rfl, fun htile => ?_⟩
  obtain ⟨hx, hy⟩ := texel_inside s.width s.height s.tile.toNat s.tex.toNat htile s.tex.isLt
  have hpos := tilesPerRow_pos s.width s.height s.tile.toNat htile
  have hpx := toNat_fit 16 _ (hx.trans s.width.isLt)
  have hpy := toNat_fit 16 _ (hy.trans s.height.isLt)
  refine ⟨hpx.trans ?_, hpy.trans ?_, hpx.trans_lt hx, hpy.trans_lt hy⟩
  · rw [tileX, modNat_pos _ _ hpos, texelX, tilesPerRow]
  · rw [tileY, divNat_pos _ _ hpos, texelY, tilesPerRow]

/-- Settles O42: TILE + 1 fits its register. -/
theorem nextAdvancesTheTile : Obligations.NextAdvancesTheTile := by
  intro s htile
  rw [← fit_of_lt htile]
  rfl

/-- Settles O40: the writes of the two micro-operations. -/
theorem beginAndFinish : Obligations.BeginAndFinish :=
  fun _ => ⟨rfl, rfl⟩

/-! ### CHECK (R197) -/

/-- A pass code without a pass: the reserved one, and EXT with no external pass (R197). -/
theorem passAvailable_eq_false_iff (p : BitVec 2) (hasExt : Bool) :
    passAvailable p hasExt = false ↔ p = 3#2 ∨ (p = 2#2 ∧ hasExt = false) := by
  revert p hasExt
  decide

/-- CHECK raises what `Check` finds (R197, R286). -/
theorem exec_check_of_some {s : State} {f : Failure}
    (hc : checkConfig s.fmt s.width s.height = some f) : exec .check s = .next (s.raise f) := by
  change execCheck s = _
  rw [execCheck, hc]

/-- CHECK raises UnsupportedPass on a legal configuration (R197, R285). -/
theorem exec_check_of_noPass {s : State} (hc : s.configLegal)
    (hp : passAvailable s.passSel s.env.hasExtPass = false) :
    exec .check s = .next (s.raise .unsupportedPass) := by
  change execCheck s = _
  unfold execCheck
  rw [show checkConfig s.fmt s.width s.height = none from hc]
  exact if_neg (by simp [hp])

/-- Settles O39, by the outcome of `Check` and then by the pass code. -/
theorem checkOutcomesInOrder : Obligations.CheckOutcomesInOrder := by
  intro s
  have hfmt : (s.fmt ≠ 1#2 ∧ s.fmt ≠ 2#2) ↔ (s.fmt = 0#2 ∨ s.fmt = 3#2) := by
    generalize s.fmt = f
    revert f
    decide
  have hcheck := checkConfig_eq s.fmt s.width s.height
  simp only [← hfmt] at hcheck
  split_ifs at hcheck ⊢ with hbad hgeometry hpass
  · exact exec_check_of_some hcheck
  · exact exec_check_of_some hcheck
  · exact exec_check_of_noPass hcheck ((passAvailable_eq_false_iff _ _).2 hpass)
  · exact exec_check hcheck (by simpa using mt (passAvailable_eq_false_iff _ _).1 hpass)

/-- The step of a pending DECODE in an idle machine (R234). -/
theorem step_decodeCommand {s : State} {p : BitVec 2} {w : Word64} {ms : List HostMove}
    (hq : s.seq = seqIdle) (hreset : s.env.resetIn = [])
    (hm : s.env.moves = .csrWrite 0#3 w :: ms) (hw : decodeCommand w = .decode p) :
    step s = .next ((s.withMoves ms).startDecode p) := by
  rw [step_hostMove (by rw [hreset]; rfl) hq hm, State.tick_of_noReset hreset]
  change exec (decodeCommand w) (s.withMoves ms) = _
  rw [hw]
  exact acceptCommand_idle _ _ hq

/-- The failure entry of CHECK leaves ERR, the operand and the used move, and nothing else, of the
command that it ends (R286, R320). -/
theorem State.raise_startDecode {s : State} (hq : s.seq = seqIdle) (p : BitVec 2)
    (ms : List HostMove) (f : Failure) :
    ((s.withMoves ms).startDecode p).raise f =
      { s with err := failureCode f, passSel := p, env := { s.env with moves := ms } } := by
  rw [State.raise, ← hq]
  rfl

/-- CHECK on a configuration that is not legal, or with a pass that is not available, raises one of
its three failures (R197). -/
theorem exec_check_rejects {s : State}
    (h : ¬ s.configLegal ∨ passAvailable s.passSel s.env.hasExtPass = false) :
    ∃ f : Failure, (f = .unsupportedFormat ∨ f = .malformedGeometry ∨ f = .unsupportedPass) ∧
      exec .check s = .next (s.raise f) := by
  cases hc : checkConfig s.fmt s.width s.height with
  | some f =>
    refine ⟨f, ?_, exec_check_of_some hc⟩
    rcases checkConfig_some _ _ _ f hc with e | e
    · exact .inl e
    · exact .inr (.inl e)
  | none =>
    have hp := h.resolve_left (not_not_intro hc)
    exact ⟨_, .inr (.inr rfl), exec_check_of_noPass hc hp⟩

/-- Settles O58: the command, then the failure entry of CHECK. -/
theorem rejectedDecodeKeepsTheBuffer : Obligations.RejectedDecodeKeepsTheBuffer := by
  intro s p w ms hq hreset hm hw hfail
  obtain ⟨f, hf, hexec⟩ := exec_check_rejects (s := (s.withMoves ms).startDecode p) hfail
  have hcheck : step ((s.withMoves ms).startDecode p) =
      .next (((s.withMoves ms).startDecode p).raise f) :=
    Eq.trans (step_of_seq (code := seqCheck) hreset rfl (by decide)) hexec
  refine ⟨failureCode f, ?_, ?_⟩
  · rcases hf with rfl | rfl | rfl
    · exact .inl rfl
    · exact .inr (.inl rfl)
    · exact .inr (.inr rfl)
  · rw [← State.raise_startDecode hq]
    exact (run_succ (step_decodeCommand hq hreset hm hw) 1).trans (run_one hcheck)

end Sys2Proof.Machine
end

section
/-!
The content of the buffer a decode writes: each stored texel is the pixel of the image that R213
describes, and a whole DECODE stores them all (spec/43_tile_scanner.md R193, R205, R207;
spec/44_pixel_write_buffer.md R213; spec/45_host_commands.md R234).
-/

namespace Sys2Proof.Machine

/-! ### Runs -/

/-- Two runs of the same length from one state end alike. -/
theorem run_unique {M : Host.Core} {k : Nat} {s t u : M.State} (ht : M.run k s = .next t)
    (hu : M.run k s = .next u) : t = u :=
  Host.Outcome.next.inj (ht.symm.trans hu)

/-! ### Entries of CB (R102, R212) -/

/-- A stored pixel is read back from its entry. -/
theorem Memory.entryIs_writeMany_self (m : Memory) (a : Nat) (q : Pixel) :
    (m.writeMany a (pixelBytes q)).entryIs a q := by
  have stored (k : Nat) (hk : k < 3) := m.read_writeMany_self (pixelBytes q) a k hk
  exact ⟨stored 0 (by decide), stored 1 (by decide), stored 2 (by decide)⟩

/-- Storing the pixel of one entry leaves every entry that does not overlap it. -/
theorem Memory.entryIs_writeMany_other {m : Memory} {a e : Nat} {p : Pixel} (q : Pixel)
    (hapart : e + 3 ≤ a ∨ a + 3 ≤ e) (h : m.entryIs e p) :
    (m.writeMany a (pixelBytes q)).entryIs e p := by
  have hlength : (pixelBytes q).length = 3 := rfl
  have kept (k : Nat) (hk : k < 3) : (m.writeMany a (pixelBytes q)).read (e + k) = m.read (e + k) :=
    Memory.read_writeMany_other _ _ _ _ (by omega)
  obtain ⟨hr, hg, hb⟩ := h
  exact ⟨(kept 0 (by decide)).trans hr, (kept 1 (by decide)).trans hg,
    (kept 2 (by decide)).trans hb⟩

/-! ### The pixels stored so far (R208, R213) -/

/-- The entry of texel `i` of tile `t` holds the pixel of the image at the texel's coordinates. -/
def State.texelStored (s : State) (t i : Nat) : Prop :=
  ∃ q, imagePixel s.env.stream s.fmt s.width s.pass s.env.hasExtPass
      (tileX (tilesPerRow s.width) t + texelX i) (tileY (tilesPerRow s.width) t + texelY i) =
        some q ∧
    s.cb.entryIs (texelAddress s.width t i) q

/-- The texels that PIXCNT counts are stored. -/
def State.Painted (s : State) : Prop :=
  ∀ t i, i < 16 → 16 * t + i < s.pixcnt.toNat → s.texelStored t i

/-- A state of the same decode with the same buffer and count has the same texels stored. -/
theorem State.Painted.of_same {s t : State} (hpaint : s.Painted) (hsame : s.SameDecode t)
    (hcb : t.cb = s.cb) (hcount : t.pixcnt = s.pixcnt) : t.Painted := by
  unfold State.Painted State.texelStored
  rw [hsame.fmt, hsame.width, hsame.pass, hsame.env, hcb, hcount]
  exact hpaint

/-! ### The blocks of a tile (R121, R193) -/

/-- The block registers hold the blocks of the current tile. -/
def State.blocksLoaded (s : State) : Prop :=
  blockAt s.env.stream (8 * (s.bpt * s.tile.toNat)) = some s.blkR ∧
    (s.bpt = 2 → blockAt s.env.stream (8 * (s.bpt * s.tile.toNat + 1)) = some s.blkG)

/-- The block that a read with 8 bytes remaining loads is the one at CUR. -/
theorem State.Decoding.step_blockAt {s : State} {c : Chan} (hd : s.Decoding) (hq : s.readsBlock c)
    (hbytes : s.cur.toNat + 8 ≤ s.env.stream.length) :
    ∃ b, blockAt s.env.stream (8 * s.blocksRead) = some b ∧
      step s = .next (s.loadBlock c b) ∧ (s.loadBlock c b).Decoding := by
  obtain ⟨b, hb⟩ := Option.isSome_iff_exists.1 ((blockAt_isSome_iff _ _).2 hbytes)
  exact ⟨b, hd.working.cursor ▸ hb, (hd.step_readBlock hq).trans (readBlock_of_blockAt c hb),
    hd.of_same (.loadBlock s c b) (hd.working.loadBlock hq hd.config b hb)⟩

/-- In BC5 the green block is read after the red one (R196). -/
theorem State.readsGreen_of_bc5 {s : State} (hfmt : s.fmt = 2#2) (b : Block) :
    (s.loadBlock .red b).readsBlock .green := by
  change (s.loadBlock .red b).seq = seqRdblkG
  rw [State.loadBlock_seq, hfmt]
  rfl

/-- What the block reads of a tile leave: its blocks, and the buffer as it was. -/
theorem State.Decoding.blocksLoaded_of_run {s t : State} (hd : s.Decoding)
    (hq : s.seq = seqRdblkR) (hbytes : 8 * (s.bpt * (s.tile.toNat + 1)) ≤ s.env.stream.length)
    (hrun : Sys2Proof.core.run s.bpt s = .next t) :
    t.blocksLoaded ∧ t.cb = s.cb ∧ t.pixcnt = s.pixcnt := by
  have hread := State.blocksRead_of_rdblkR hq
  have hcur := hd.working.cursor
  have hbpt := s.bpt_range
  rw [Nat.mul_succ] at hbytes
  obtain ⟨b, hb, hred, hd1⟩ := hd.step_blockAt (c := .red) hq (by omega)
  rcases State.configLegal_fmt hd.config with ⟨-, hone⟩ | ⟨hfmt, htwo⟩
  · rw [hone] at hrun
    obtain rfl := run_unique (run_one hred) hrun
    rw [hread] at hb
    exact ⟨⟨hb, fun h => absurd (hone.symm.trans h) (by decide)⟩, rfl, rfl⟩
  · have hread1 := State.blocksRead_loadBlock (c := .red) hq hd.working hd.config b
    have hcur1 := hd1.working.cursor
    obtain ⟨g, hg, hgreen, -⟩ :=
      hd1.step_blockAt (State.readsGreen_of_bc5 hfmt b) (by rw [State.loadBlock_env]; omega)
    rw [htwo] at hrun
    obtain rfl := run_unique ((run_succ hred 1).trans (run_one hgreen)) hrun
    rw [hread1, hread] at hg
    rw [hread] at hb
    exact ⟨⟨hb, fun _ => hg⟩, rfl, rfl⟩

/-! ### The channels of a tile (R149, R161, R193) -/

/-- The channel registers hold the channel values of the current tile. -/
def State.channelsFilled (s : State) : Prop :=
  ∀ (c : Chan) (i : BitVec 4),
    texelChannel s.env.stream s.fmt c s.tile.toNat i.toNat = some (s.lane c i)

/-- A value that the stream gives for a channel lies in [0.0, 1.0]. -/
theorem inUnit_texelChannel {stream : List Byte} {fmt : BitVec 2} {c : Chan} {t i : Nat} {v : F32}
    (h : texelChannel stream fmt c t i = some v) : inUnit v = true := by
  have fromBlock (a : Nat)
      (h : (blockAt stream a).map (fun b => interp b.ref0 b.ref1 (idxCode b.idx i)) = some v) :
      inUnit v = true := by
    obtain ⟨b, -, rfl⟩ := Option.map_eq_some_iff.1 h
    exact inUnit_interp _ _ _
  cases c with
  | red => exact fromBlock _ h
  | green =>
    unfold texelChannel at h
    by_cases hbpt : blocksPerTile fmt = 2
    · exact fromBlock _ ((if_pos hbpt).symm.trans h)
    · obtain rfl := Option.some.inj ((if_neg hbpt).symm.trans h)
      exact inUnit_f0

theorem State.channelsFilled.lanesInUnit {s : State} (h : s.channelsFilled) : s.lanesInUnit :=
  fun c i => inUnit_texelChannel (h c i)

/-- A lane of INTERP is the channel value that its block gives (R95, R149). -/
theorem map_interp_eq_lane {stream : List Byte} {a : Nat} {b : Block}
    (hb : blockAt stream a = some b) (i : BitVec 4) :
    (blockAt stream a).map (fun b => interp b.ref0 b.ref1 (idxCode b.idx i.toNat)) =
      some ((interpLanes b)[i.toNat]'i.isLt) := by
  simp [hb, interpLanes]

/-- The state after INTERP_R and INTERP_G, or INTERP_R and ZFILL. -/
def State.interpolated (s : State) : State :=
  { s with
    chR := interpLanes s.blkR,
    chG := if s.bpt = 2 then interpLanes s.blkG else Vector.replicate 16 f0, seq := seqTexxy }

/-- From the blocks of the tile, its channel values. -/
theorem State.blocksLoaded.channelsFilled {s : State} (h : s.blocksLoaded) :
    s.interpolated.channelsFilled := by
  obtain ⟨hred, hgreen⟩ := h
  intro c i
  cases c with
  | red => exact map_interp_eq_lane hred i
  | green =>
    by_cases hbpt : s.bpt = 2
    · simp only [State.interpolated, State.lane, State.ch, if_pos hbpt]
      exact (if_pos hbpt).trans (map_interp_eq_lane (hgreen hbpt) i)
    · simp only [State.interpolated, State.lane, State.ch, if_neg hbpt, Vector.getElem_replicate]
      exact if_neg hbpt

/-- The two steps that fill the channels (R149, R161). -/
theorem State.Decoding.run_interpolated {s : State} (hd : s.Decoding) (hq : s.seq = seqInterpR) :
    Sys2Proof.core.run 2 s = .next s.interpolated := by
  have hred : step s = exec .interpR s := step_of_seq hd.noReset hq (by decide)
  rw [exec_interpR] at hred
  have hnext (code : BitVec 4) (hcode : code ≠ seqIdle) :
      step ((s.setCh .red (interpLanes s.blkR)).setSeq code) =
        exec (decodeSeq code) ((s.setCh .red (interpLanes s.blkR)).setSeq code) :=
    step_of_seq hd.noReset rfl hcode
  unfold State.interpolated
  rcases State.configLegal_fmt hd.config with ⟨hfmt, hone⟩ | ⟨hfmt, htwo⟩
  · rw [show afterInterpR s.fmt = seqZfill by rw [hfmt]; rfl] at hred
    have hzero := (hnext seqZfill (by decide)).trans (exec_zfill _)
    rw [State.setCh_red_green] at hzero
    rw [if_neg (by omega)]
    exact (run_succ hred 1).trans (run_one hzero)
  · rw [show afterInterpR s.fmt = seqInterpG by rw [hfmt]; rfl] at hred
    have hgreen := (hnext seqInterpG (by decide)).trans (exec_interpG _)
    rw [State.setCh_red_green, State.setSeq_blkG, State.setCh_blkG] at hgreen
    rw [if_pos htwo]
    exact (run_succ hred 1).trans (run_one hgreen)

/-! ### One texel (R202, R171, R212, R213) -/

/-- The pixel of the image at a texel of a tile: the pass of the texel's channel values, quantised
(R167, R213). -/
theorem imagePixel_of_texel {stream : List Byte} {fmt p : BitVec 2} {w h : BitVec 16}
    {hasExt : Bool} {t i : Nat} {c0 c1 : F32} {r : F32 × F32 × F32} {q : Pixel}
    (ht : t < tileCount w h) (hi : i < 16)
    (hred : texelChannel stream fmt .red t i = some c0)
    (hgreen : texelChannel stream fmt .green t i = some c1)
    (hpass : passFunction p hasExt c0 c1 = some r) (hpixel : toPixel r = some q) :
    imagePixel stream fmt w p hasExt (tileX (tilesPerRow w) t + texelX i)
      (tileY (tilesPerRow w) t + texelY i) = some q := by
  obtain ⟨htile, htexel⟩ := texel_of_coordinates ht hi
  simp [imagePixel, htile, htexel, hred, hgreen, hpass, hpixel]

/-- A texel with its pixel stored is one more texel of the buffer. -/
theorem State.Decoding.painted_storeTexel {s : State} (hd : s.Decoding) (hq : s.seq = seqTexxy)
    (hl : s.channelsFilled) (hpaint : s.Painted) (x y : BitVec 16) {r : F32 × F32 × F32} {q : Pixel}
    (hpass : passFunction s.pass s.env.hasExtPass s.texelRed s.texelGreen = some r)
    (hpixel : toPixel r = some q) : (s.storeTexel x y q).Painted := by
  obtain ⟨htile, hp⟩ := hd.working.atTexel (.inl hq)
  have htiles : s.tiles = tileCount s.width s.height := rfl
  have hcounted : s.pixcnt.toNat = 16 * s.tile.toNat + s.tex.toNat := hp.count
  have hfits : (fit 32 (s.pixcnt.toNat + 1)).toNat = s.pixcnt.toNat + 1 :=
    (hp.store htile q s.tex seqTexxy).count.trans (by rw [hcounted]; rfl)
  intro t i hi hlt
  change 16 * t + i < (fit 32 (s.pixcnt.toNat + 1)).toNat at hlt
  by_cases hearlier : 16 * t + i < s.pixcnt.toNat
  · obtain ⟨p, hpixel, hentry⟩ := hpaint t i hi hearlier
    refine ⟨p, hpixel, Memory.entryIs_writeMany_other q (texelAddress_apart ?_) hentry⟩
    intro heq
    obtain ⟨rfl, rfl⟩ := texelAddress_inj (h := s.height) (by omega) hi htile s.tex.isLt heq
    omega
  · obtain ⟨rfl, rfl⟩ : t = s.tile.toNat ∧ i = s.tex.toNat := by omega
    exact ⟨q, imagePixel_of_texel htile hi (hl .red s.tex) (hl .green s.tex) hpass hpixel,
      Memory.entryIs_writeMany_self _ _ q⟩

/-- The texels from TEX to the last. -/
theorem State.Decoding.painted_of_run_texels {s t : State} (m : Nat) (hd : s.Decoding)
    (hq : s.seq = seqTexxy) (hl : s.channelsFilled) (hm : s.tex.toNat + m = 15)
    (hpaint : s.Painted) (hrun : Sys2Proof.core.run (3 * (m + 1)) s = .next t) : t.Painted := by
  induction m generalizing s with
  | zero =>
    obtain ⟨x, y, r, q, hpass, hpixel, htexel⟩ := hd.run_texel hq hl.lanesInUnit
    exact run_unique htexel hrun ▸ hd.painted_storeTexel hq hl hpaint x y hpass hpixel
  | succ m ih =>
    obtain ⟨x, y, r, q, hpass, hpixel, htexel⟩ := hd.run_texel hq hl.lanesInUnit
    rw [show 3 * (m + 1 + 1) = 3 + 3 * (m + 1) by ring, run_add htexel] at hrun
    have htex : (s.storeTexel x y q).tex = s.tex + 1#4 := if_pos (by omega)
    exact ih (hd.storeTexel hq x y q) (if_pos (by omega)) hl (by rw [htex]; bv_omega)
      (hd.painted_storeTexel hq hl hpaint x y hpass hpixel) hrun

/-! ### A tile, and all tiles (R204, R205) -/

/-- NEXT leaves the buffer and the count. -/
theorem State.Decoding.painted_of_nextTile {s t : State} (hd : s.Decoding) (hq : s.seq = seqNext)
    (hpaint : s.Painted) (hstep : step s = .next t) : t.Painted := by
  have hnext : step s = execNextTile s := step_of_seq hd.noReset hq (by decide)
  obtain rfl := Host.Outcome.next.inj (hnext.symm.trans hstep)
  exact hpaint

/-- A tile adds its sixteen texels. -/
theorem State.Decoding.painted_of_run_tile {s t : State} (hd : s.Decoding) (hq : s.seq = seqRdblkR)
    (hbytes : 8 * (s.bpt * (s.tile.toNat + 1)) ≤ s.env.stream.length) (hpaint : s.Painted)
    (hrun : Sys2Proof.core.run (51 + s.bpt) s = .next t) : t.Painted := by
  obtain ⟨u, hblocks, hdu, hsu, -, hqu⟩ := hd.run_loadBlocks hq hbytes
  obtain ⟨hloaded, hcb, hcount⟩ := hd.blocksLoaded_of_run hq hbytes hblocks
  have hfilled := hloaded.channelsFilled
  have hdf : u.interpolated.Decoding := hdu.fillChannels hqu _ _
  have htex : u.tex = 0#4 := hdu.working.texStart (.inl (by rw [hqu]; decide))
  have hlast : u.interpolated.tex.toNat + 15 = 15 := congrArg (BitVec.toNat · + 15) htex
  have hpaintu : u.Painted := hpaint.of_same hsu hcb hcount
  obtain ⟨v, htexels, hdv, -, -, hqv⟩ := hdf.run_texels 15 rfl hfilled.lanesInUnit hlast
  rw [show 51 + s.bpt = s.bpt + (2 + (48 + 1)) by ring, run_add hblocks,
    run_add (hdu.run_interpolated hqu), run_add htexels] at hrun
  obtain ⟨t', hnext, -⟩ := hdv.step_nextTile hqv
  obtain rfl := run_unique (run_one hnext) hrun
  exact hdv.painted_of_nextTile hqv
    (hdf.painted_of_run_texels 15 rfl hfilled hlast hpaintu htexels) hnext

/-- Any number of tiles from the first adds the texels of each. -/
theorem State.Decoding.painted_of_run_tiles {s t : State} (hd : s.Decoding)
    (hq : s.seq = seqRdblkR) (hfirst : s.tile.toNat = 0) (hpaint : s.Painted) (n : Nat)
    (hn : n ≤ s.tiles) (hbytes : 8 * (s.bpt * n) ≤ s.env.stream.length)
    (hrun : Sys2Proof.core.run (n * (51 + s.bpt)) s = .next t) : t.Painted := by
  induction n generalizing t with
  | zero =>
    rw [Nat.zero_mul] at hrun
    exact run_unique rfl hrun ▸ hpaint
  | succ n ih =>
    have hle : 8 * (s.bpt * n) ≤ s.env.stream.length := by rw [Nat.mul_succ] at hbytes; omega
    obtain ⟨u, hu, hdu, hsu, htu, hqu⟩ := hd.run_tiles hq hfirst n hn hle
    rw [Nat.succ_mul, run_add hu, ← hsu.bpt] at hrun
    exact hdu.painted_of_run_tile hqu (by rw [hsu.bpt, htu, hsu.env]; exact hbytes)
      (ih (by omega) hle hu) hrun

/-! ### The whole DECODE (R205, R207, R213) -/

/-- With all blocks in the stream the sequencer comes to FINISH after the last tile. -/
theorem State.Decoding.run_allTiles {s : State} (hd : s.Decoding) (hq : s.seq = seqRdblkR)
    (hfirst : s.tile.toNat = 0) (hbytes : 8 * (s.bpt * s.tiles) ≤ s.env.stream.length) :
    ∃ t, Sys2Proof.core.run (s.tiles * (51 + s.bpt)) s = .next t ∧ t.Decoding ∧ s.SameDecode t ∧
      t.seq = seqFinish := by
  obtain ⟨n, hn⟩ := Nat.exists_eq_add_one.2 (State.configLegal_tiles hd.config)
  rw [hn] at hbytes ⊢
  have hle : 8 * (s.bpt * n) ≤ s.env.stream.length := by rw [Nat.mul_succ] at hbytes; omega
  obtain ⟨u, hu, hdu, hsu, htu, hqu⟩ := hd.run_tiles hq hfirst n (by omega) hle
  obtain ⟨t, hlast, hdt, hst, -, hqt⟩ :=
    hdu.run_tile hqu (by rw [hsu.bpt, htu, hsu.env]; exact hbytes)
  refine ⟨t, ?_, hdt, hsu.trans hst, ?_⟩
  · rw [Nat.succ_mul, run_add hu, ← hsu.bpt]
    exact hlast
  · rw [hqt, if_neg]
    rw [htu, hsu.tiles, hn]
    exact lt_irrefl _

/-- At FINISH the registers hold the values of R207. -/
theorem State.Decoding.at_finish {s : State} (hd : s.Decoding) (hq : s.seq = seqFinish) :
    s.cur.toNat = 8 * (s.bpt * s.tiles) ∧ s.tile.toNat = s.tiles ∧ s.tex = 0#4 ∧
      s.pixcnt.toNat = 16 * s.tiles := by
  have hend := hd.working.tileAtEnd hq
  have hcursor := hd.working.cursor
  have hcount := hd.working.count
  rw [State.blocksRead, if_pos (.inr hq), hend] at hcursor
  rw [State.texelsDone, hq, if_neg (by decide), if_neg (by decide), hend] at hcount
  exact ⟨hcursor, hend, hd.working.texStart (.inr hq), hcount⟩

/-- With every texel counted the buffer is the image of R213. -/
theorem State.Painted.image {s : State} (hpaint : s.Painted) (hc : s.configLegal)
    (hcount : s.pixcnt.toNat = 16 * s.tiles) {x y : Nat} (hx : x < s.width.toNat)
    (hy : y < s.height.toNat) :
    ∃ q, imagePixel s.env.stream s.fmt s.width s.pass s.env.hasExtPass x y = some q ∧
      s.cb.entryIs (3 * (y * s.width.toNat + x)) q := by
  obtain ⟨-, -, -, hw4, hh4⟩ := (checkConfig_eq_none_iff _ _ _).1 hc
  obtain ⟨t, i, ht, hi, rfl, rfl⟩ := exists_texel s.width s.height x y hw4 hh4 hx hy
  have htiles : s.tiles = tileCount s.width s.height := rfl
  exact hpaint t i hi (by omega)

/-- Settles O56: the command comes to the first tile, the tiles to FINISH with every texel stored,
and FINISH exposes the buffer. -/
theorem decodeWritesTheImage : Obligations.DecodeWritesTheImage := by
  intro s p w ms hq hreset hm hw hc hp hbytes
  have hbegun := run_begun hq hreset hm hw hc hp
  have hd := State.decoding_begun ms hreset hc hp
  have hempty : (s.begun p ms).Painted := fun t i _ h => absurd h (Nat.not_lt_zero _)
  obtain ⟨t, htiles, hdt, hsame, hqt⟩ := hd.run_allTiles rfl rfl hbytes
  have hpaint := hd.painted_of_run_tiles rfl rfl hempty _ le_rfl hbytes htiles
  obtain ⟨hcur, htile, htex, hcount⟩ := hdt.at_finish hqt
  have hfinish : step t = .next { t with bufValid := true, seq := seqIdle } :=
    step_of_seq hdt.noReset hqt (by decide)
  obtain ⟨-, -, -, hw4, hh4⟩ := (checkConfig_eq_none_iff _ _ _).1 hc
  have himage := fun x y => hpaint.image (x := x) (y := y) hdt.config hcount
  rw [hsame.tiles] at hcur htile hcount
  rw [hsame.bpt] at hcur
  rw [hsame.env, hsame.fmt, hsame.width, hsame.height, hsame.pass] at himage
  refine ⟨{ t with bufValid := true, seq := seqIdle }, ?_, rfl, rfl, hdt.working.noError,
    hsame.pass, hcur, htile, htex, hcount.trans (sixteen_mul_tileCount _ _ hw4 hh4), hsame.fmt,
    hsame.width, hsame.height, hsame.env, himage⟩
  rw [show 4 + s.tiles * (51 + s.bpt) = 3 + (s.tiles * (51 + s.bpt) + 1) by ring, run_add hbegun]
  exact (run_add htiles 1).trans (run_one hfinish)

end Sys2Proof.Machine
end

section
/-!
The pixel write buffer: what one WRPIX stores and counts, and what a read of a hidden buffer answers
(spec/44_pixel_write_buffer.md R211, R212, R214, R215; spec/10_state.md R34).
-/

namespace Sys2Proof.Machine

/-! ### WRPIX (R211, R212) -/

theorem State.pixelInImage_iff (s : State) :
    s.pixelInImage = true ↔ s.px.toNat < s.width.toNat ∧ s.py.toNat < s.height.toNat := by
  simp [State.pixelInImage]

/-- The entry WRPIX stores to ends inside the buffer (R34, R211). -/
theorem State.storeAddress_add_three_le {s : State} (hx : s.px.toNat < s.width.toNat)
    (hy : s.py.toNat < s.height.toNat) :
    s.storeAddress + 3 ≤ 3 * s.width.toNat * s.height.toNat := by
  have hentry := pixEntry_lt hx hy
  rw [State.storeAddress, pixAddr, Nat.mul_assoc]
  omega

/-- The texel after `tex`: one more, and the last one stays (R212). -/
theorem toNat_texAfterStore (tex : BitVec 4) :
    (if tex.toNat < 15 then tex + 1#4 else tex).toNat =
      if tex.toNat < 15 then tex.toNat + 1 else 15 := by
  revert tex
  decide

/-- Settles O45: inside the image the three bytes are the entry of the pixel, which overlaps no
other byte; outside it the guard of WRPIX fails. -/
theorem wrpixStoresOneEntry : Obligations.WrpixStoresOneEntry := by
  intro s
  refine ⟨fun hx hy hcount => ?_, fun hout => if_neg (mt s.pixelInImage_iff.1 hout)⟩
  obtain ⟨hred, hgreen, hblue⟩ := s.cb.entryIs_writeMany_self s.storeAddress s.pix
  exact ⟨State.storeAddress_add_three_le hx hy, _, if_pos (s.pixelInImage_iff.2 ⟨hx, hy⟩),
    hred, hgreen, hblue,
    s.cb.read_writeMany_other (pixelBytes s.pix) s.storeAddress,
    s.cb.wf_writeMany (pixelBytes s.pix) s.storeAddress,
    toNat_fit 32 _ hcount, toNat_texAfterStore s.tex, rfl, rfl⟩

/-! ### A hidden buffer (R214, R215) -/

/-- While BUF_VALID = 0 a read of the buffer has no data, whatever the buffer holds (R214). -/
theorem hostCbRead_of_hidden {s : State} (hidden : s.bufValid = false) (a n : Nat) :
    hostCbRead a n s = .next (s.reply .noData) :=
  if_neg (by simp [State.cbReadPermitted, hidden])

/-- A step that runs a read of the hidden buffer uses up the move and replies without data. -/
theorem step_cbRead_of_hidden {s : State} {a n : Nat} {ms : List HostMove}
    (hidden : s.bufValid = false) (hq : s.seq = 0#4) (hreset : s.env.resetIn.headD false = false)
    (hm : s.env.moves = .cbRead a n :: ms) :
    step s = .next ((s.tick.withMoves ms).reply .noData) :=
  (step_hostMove hreset hq hm).trans
    (hostCbRead_of_hidden (s := s.tick.withMoves ms) hidden a n)

/-- Settles O48: with either buffer the read is refused, and the refusal keeps CB. -/
theorem hiddenBufferIsUnreadable : Obligations.HiddenBufferIsUnreadable := by
  intro s m a n ms hidden hq hreset hm
  exact ⟨_, step_cbRead_of_hidden hidden hq hreset hm, rfl,
    step_cbRead_of_hidden (s := { s with cb := m }) hidden hq hreset hm⟩

end Sys2Proof.Machine
end

section
/-!
The host commands: which command words are legal, and what each command row does in an idle and in a
busy machine (spec/45_host_commands.md R230 to R236; spec/60_exceptions.md R286).
-/

namespace Sys2Proof.Machine

/-! ### The fields of a command word as a whole (R97, R98) -/

/-- The seven fields of a command word side by side are the word. -/
theorem commandFields_append (w : Word64) :
    w.extractLsb' 48 16 ++ w.extractLsb' 16 32 ++ w.extractLsb' 8 8 ++ w.extractLsb' 6 2 ++
      w.extractLsb' 4 2 ++ w.extractLsb' 3 1 ++ w.extractLsb' 0 3 = w := by
  simp only [BitVec.extractLsb'_append_extractLsb'_eq_extractLsb']
  exact BitVec.extractLsb'_eq_self

/-- Command words are equal exactly when they agree field by field. -/
theorem eq_iff_commandFields (x y : Word64) :
    x = y ↔ x.extractLsb' 48 16 = y.extractLsb' 48 16 ∧ x.extractLsb' 16 32 = y.extractLsb' 16 32 ∧
      x.extractLsb' 8 8 = y.extractLsb' 8 8 ∧ x.extractLsb' 6 2 = y.extractLsb' 6 2 ∧
      x.extractLsb' 4 2 = y.extractLsb' 4 2 ∧ x.extractLsb' 3 1 = y.extractLsb' 3 1 ∧
      x.extractLsb' 0 3 = y.extractLsb' 0 3 := by
  refine ⟨by rintro rfl; simp, fun ⟨htop, hsize, hmid, hpass, hfmt, hbit, hop⟩ => ?_⟩
  rw [← commandFields_append x, htop, hsize, hmid, hpass, hfmt, hbit, hop, commandFields_append]

/-- A field that the mask keeps whole. -/
theorem extractLsb'_and_of_kept {mask : Word64} {start len : Nat}
    (h : mask.extractLsb' start len = BitVec.allOnes len) (w : Word64) :
    (w &&& mask).extractLsb' start len = w.extractLsb' start len :=
  (extractLsb'_of_and_eq rfl h).symm

/-- A field that the mask clears. -/
theorem extractLsb'_and_of_cleared {mask : Word64} {start len : Nat}
    (h : mask.extractLsb' start len = 0#len) (w : Word64) :
    (w &&& mask).extractLsb' start len = 0#len := by
  rw [BitVec.extractLsb'_and, h, BitVec.and_zero]

/-! ### The three legal commands by their fields (R236) -/

theorem and_constructMask_eq_iff (w : Word64) :
    w &&& constructMask = 1#64 ↔
      w.extractLsb' 48 16 = 0#16 ∧ w.extractLsb' 8 8 = 0#8 ∧ w.extractLsb' 6 2 = 0#2 ∧
      w.extractLsb' 3 1 = 0#1 ∧ w.extractLsb' 0 3 = 1#3 := by
  rw [eq_iff_commandFields, extractLsb'_and_of_kept (by decide : _ = BitVec.allOnes 16),
    extractLsb'_and_of_cleared (by decide : _ = 0#32),
    extractLsb'_and_of_kept (by decide : _ = BitVec.allOnes 8),
    extractLsb'_and_of_kept (start := 6) (len := 2) (by decide),
    extractLsb'_and_of_cleared (start := 4) (len := 2) (by decide),
    extractLsb'_and_of_kept (by decide : _ = BitVec.allOnes 1),
    extractLsb'_and_of_kept (by decide : _ = BitVec.allOnes 3)]
  simp

theorem eq_validateWord_iff (w : Word64) :
    w = 2#64 ↔
      w.extractLsb' 48 16 = 0#16 ∧ w.extractLsb' 16 32 = 0#32 ∧ w.extractLsb' 8 8 = 0#8 ∧
      w.extractLsb' 6 2 = 0#2 ∧ w.extractLsb' 4 2 = 0#2 ∧ w.extractLsb' 3 1 = 0#1 ∧
      w.extractLsb' 0 3 = 2#3 :=
  eq_iff_commandFields w 2#64

theorem and_decodeMask_eq_iff (w : Word64) :
    w &&& decodeMask = 3#64 ↔
      w.extractLsb' 48 16 = 0#16 ∧ w.extractLsb' 16 32 = 0#32 ∧ w.extractLsb' 8 8 = 0#8 ∧
      w.extractLsb' 4 2 = 0#2 ∧ w.extractLsb' 3 1 = 0#1 ∧ w.extractLsb' 0 3 = 3#3 := by
  rw [eq_iff_commandFields, extractLsb'_and_of_kept (by decide : _ = BitVec.allOnes 16),
    extractLsb'_and_of_kept (by decide : _ = BitVec.allOnes 32),
    extractLsb'_and_of_kept (by decide : _ = BitVec.allOnes 8),
    extractLsb'_and_of_cleared (start := 6) (len := 2) (by decide),
    extractLsb'_and_of_kept (start := 4) (len := 2) (by decide),
    extractLsb'_and_of_kept (by decide : _ = BitVec.allOnes 1),
    extractLsb'_and_of_kept (by decide : _ = BitVec.allOnes 3)]
  simp

/-- Bit 3 of a command word as a field. -/
theorem getLsbD_three_iff (w : Word64) : w.getLsbD 3 = false ↔ w.extractLsb' 3 1 = 0#1 := by
  rw [BitVec.getLsbD_eq_extractLsb']
  generalize w.extractLsb' 3 1 = bit
  revert bit
  decide

/-- `legal` clause by clause (R236). -/
theorem legal_iff (w : Word64) :
    legal w = true ↔
      w.getLsbD 3 = false ∧ w.extractLsb' 8 8 = 0#8 ∧ w.extractLsb' 48 16 = 0#16 ∧
      (w.extractLsb' 0 3 = 1#3 ∨ w.extractLsb' 0 3 = 2#3 ∨ w.extractLsb' 0 3 = 3#3) ∧
      (w.extractLsb' 0 3 = 1#3 → w.extractLsb' 6 2 = 0#2) ∧
      (w.extractLsb' 0 3 = 2#3 ∨ w.extractLsb' 0 3 = 3#3 →
        w.extractLsb' 4 2 = 0#2 ∧ w.extractLsb' 16 32 = 0#32) ∧
      (w.extractLsb' 0 3 = 2#3 → w.extractLsb' 6 2 = 0#2) := by
  simp only [legal, Bool.and_eq_true, Bool.or_eq_true, beq_iff_eq, Bool.not_eq_true',
    ← Bool.not_eq_true, ← imp_iff_not_or, and_assoc, or_assoc]

theorem legal_iff_construct {w : Word64} (hop : w.extractLsb' 0 3 = 1#3) :
    legal w = true ↔ w &&& constructMask = 1#64 := by
  rw [legal_iff, and_constructMask_eq_iff, getLsbD_three_iff]
  constructor
  · rintro ⟨hbit, hmid, htop, -, hpass, -, -⟩
    exact ⟨htop, hmid, hpass hop, hbit, hop⟩
  · rintro ⟨htop, hmid, hpass, hbit, -⟩
    exact ⟨hbit, hmid, htop, .inl hop, fun _ => hpass, by simp [hop], fun _ => hpass⟩

theorem legal_iff_validate {w : Word64} (hop : w.extractLsb' 0 3 = 2#3) :
    legal w = true ↔ w = 2#64 := by
  rw [legal_iff, eq_validateWord_iff, getLsbD_three_iff]
  constructor
  · rintro ⟨hbit, hmid, htop, -, -, hconfig, hpass⟩
    obtain ⟨hfmt, hsize⟩ := hconfig (.inl hop)
    exact ⟨htop, hsize, hmid, hpass hop, hfmt, hbit, hop⟩
  · rintro ⟨htop, hsize, hmid, hpass, hfmt, hbit, -⟩
    exact ⟨hbit, hmid, htop, .inr (.inl hop), fun _ => hpass, fun _ => ⟨hfmt, hsize⟩,
      fun _ => hpass⟩

theorem legal_iff_decode {w : Word64} (hop : w.extractLsb' 0 3 = 3#3) :
    legal w = true ↔ w &&& decodeMask = 3#64 := by
  rw [legal_iff, and_decodeMask_eq_iff, getLsbD_three_iff]
  constructor
  · rintro ⟨hbit, hmid, htop, -, -, hconfig, -⟩
    obtain ⟨hfmt, hsize⟩ := hconfig (.inr hop)
    exact ⟨htop, hsize, hmid, hfmt, hbit, hop⟩
  · rintro ⟨htop, hsize, hmid, hfmt, hbit, -⟩
    exact ⟨hbit, hmid, htop, .inr (.inr hop), by simp [hop], fun _ => ⟨hfmt, hsize⟩,
      by simp [hop]⟩

/-- Settles O4: the clauses are `legal` as written, and each mask and match form fixes the opcode and
then the fields that `legal` asks of it. -/
theorem legalWordsByMask : Obligations.LegalWordsByMask := fun w =>
  ⟨legal_iff w,
    (and_congr_left legal_iff_construct).trans (and_iff_left_of_imp opcode_of_construct),
    (and_congr_left legal_iff_validate).trans (and_iff_left_of_imp opcode_of_validate),
    (and_congr_left legal_iff_decode).trans (and_iff_left_of_imp opcode_of_decode)⟩

/-! ### The illegal rows (R235) -/

/-- The failure entry of an idle machine writes ERR alone (R286). -/
theorem State.raise_of_idle {s : State} (hq : s.seq = seqIdle) (f : Failure) :
    s.raise f = { s with err := failureCode f } := by
  rw [State.raise, ← hq]

/-- A command that raises a failure writes ERR alone (R230, R286). -/
theorem acceptCommand_raise {s : State} (hq : s.seq = seqIdle) (f : Failure) :
    acceptCommand s (s.raise f) = .next { s with err := failureCode f } := by
  rw [acceptCommand_idle s _ hq, State.raise_of_idle hq]

/-- Settles O16: each of the three rows is the failure entry of IllegalCommand. -/
theorem illegalRowsRaise : Obligations.IllegalRowsRaise := by
  intro s rest low w hq
  have hraise := acceptCommand_raise hq .illegalCommand
  exact ⟨hraise, hraise, hraise⟩

/-- A word that is not legal has the mask of no command, so one of the three illegal rows takes it
(R99, R235). -/
theorem decodeCommand_of_illegal {w : Word64} (h : legal w = false) :
    (∃ rest, decodeCommand w = .illegalOp0 rest) ∨
    (∃ rest low, decodeCommand w = .illegalOp4to7 rest low) ∨
    decodeCommand w = .illegalOther w := by
  have hnot : ¬ legal w = true := by simp [h]
  obtain ⟨-, hconstruct, hvalidate, hdecode⟩ := legalWordsByMask w
  unfold decodeCommand
  split_ifs with hmatch hmatch hmatch
  · exact absurd (hconstruct.2 hmatch).1 hnot
  · exact absurd (hvalidate.2 hmatch).1 hnot
  · exact absurd (hdecode.2 hmatch).1 hnot
  · exact .inl ⟨_, rfl⟩
  · exact .inr (.inl ⟨_, _, rfl⟩)
  · exact .inr (.inr rfl)

/-- Settles O5: the word decodes to an illegal row, and each of them raises IllegalCommand. -/
theorem illegalWordRaisesIllegalCommand : Obligations.IllegalWordRaisesIllegalCommand := by
  intro w six s hw hq
  change exec (decodeCommand w) s = _
  rcases decodeCommand_of_illegal hw with ⟨rest, hrow⟩ | ⟨rest, low, hrow⟩ | hrow <;> rw [hrow] <;>
    exact acceptCommand_raise hq .illegalCommand

/-! ### CONSTRUCT and VALIDATE (R231 to R233) -/

/-- In an idle machine the check reports format before geometry, in ERR alone (R231, R286). -/
theorem State.checkAndReport_of_idle {s : State} (hq : s.seq = seqIdle) :
    s.checkAndReport = { s with
      err :=
        if s.fmt ≠ 1#2 ∧ s.fmt ≠ 2#2 then 1#3
        else if s.width = 0#16 ∨ s.height = 0#16 ∨
            s.width.toNat % 4 ≠ 0 ∨ s.height.toNat % 4 ≠ 0 then 3#3
        else 0#3 } := by
  have hzero (v : BitVec 16) : v.toNat = 0 ↔ v = 0#16 := BitVec.toNat_inj (y := 0#16)
  unfold State.checkAndReport checkConfig
  simp only [hzero]
  split_ifs
  · exact State.raise_of_idle hq .unsupportedFormat
  · exact State.raise_of_idle hq .malformedGeometry
  · rfl

/-- Settles O13: the command is accepted, and the check is of the values just latched. -/
theorem constructLatchesAndChecks : Obligations.ConstructLatchesAndChecks := by
  intro s f w h hq
  have hreport := State.checkAndReport_of_idle (s := s.latchConfig f w h) hq
  exact (acceptCommand_idle s _ hq).trans (congrArg Host.Outcome.next hreport)

/-- Settles O14: the command is accepted, and the check is of the values latched before. -/
theorem validateWritesOnlyErr : Obligations.ValidateWritesOnlyErr := fun s hq =>
  (acceptCommand_idle s _ hq).trans (congrArg Host.Outcome.next (State.checkAndReport_of_idle hq))

/-! ### The busy machine (R230; log entry 14) -/

theorem acceptCommand_of_busy {s : State} (hq : s.seq ≠ seqIdle) (t : State) :
    acceptCommand s t = .refused .hostWhileBusy := if_neg hq

/-- Settles O17: each of the six rows asks for acceptance first. -/
theorem commandsAreRefusedWhileBusy : Obligations.CommandsAreRefusedWhileBusy := by
  intro s f p low w h rest x hq i hi
  simp only [List.mem_cons, List.not_mem_nil, or_false] at hi
  rcases hi with rfl | rfl | rfl | rfl | rfl | rfl <;> exact acceptCommand_of_busy hq _

end Sys2Proof.Machine
end

section
/-!
Rounding to nearest, ties to even, as a property of the result: what `rnd32` and `fsqrt` answer,
against every binary32 value, and the reference bytes that survive it
(spec/46_numeric_primitives.md R250, R251, R259, R263; log entry 21).
-/

namespace Sys2Proof.Machine

/-! ### The nearest integer (R251) -/

/-- `m` is the integer nearest to `y`, of two equally near ones the even one. -/
structure NearestEven (m : ℕ) (y : ℝ) : Prop where
  near : |(m : ℝ) - y| ≤ 1 / 2
  even_of_tie : |(m : ℝ) - y| = 1 / 2 → m % 2 = 0

/-- The choice between an integer below `y` and its successor, by where `y` lies against the point
halfway between them. -/
theorem nearestEven_ite {r : ℕ} {y : ℝ} {below above : Prop} [Decidable below] [Decidable above]
    (hr : (r : ℝ) ≤ y) (hr' : y < r + 1) (hbelow : below ↔ y < r + 1 / 2)
    (habove : above ↔ r + 1 / 2 < y) :
    NearestEven (if below then r else if above then r + 1 else if r % 2 = 0 then r else r + 1)
      y := by
  have hdown : |(r : ℝ) - y| = y - r := by rw [abs_sub_comm, abs_of_nonneg (by linarith)]
  have hup : |((r + 1 : ℕ) : ℝ) - y| = r + 1 - y := by
    push_cast
    exact abs_of_pos (by linarith)
  split_ifs with hb ha heven
  · rw [hbelow] at hb
    exact ⟨by rw [hdown]; linarith, fun htie => by rw [hdown] at htie; linarith⟩
  · rw [habove] at ha
    exact ⟨by rw [hup]; linarith, fun htie => by rw [hup] at htie; linarith⟩
  · rw [habove, not_lt] at ha
    exact ⟨by rw [hdown]; linarith, fun _ => heven⟩
  · rw [hbelow, not_lt] at hb
    exact ⟨by rw [hup]; linarith, fun _ => by omega⟩

/-- Any other integer is at least one half away. -/
theorem NearestEven.half_le {m : ℕ} {y : ℝ} (h : NearestEven m y) {k : ℤ} (hk : k ≠ m) :
    1 / 2 ≤ |(k : ℝ) - y| := by
  have hone : (1 : ℝ) ≤ |(k : ℝ) - m| := by
    exact_mod_cast Int.one_le_abs (sub_ne_zero.2 hk)
  have htri : |(k : ℝ) - m| ≤ |(k : ℝ) - y| + |(m : ℝ) - y| := by
    rw [abs_sub_comm (m : ℝ)]
    exact abs_sub_le _ _ _
  linarith [h.near]

theorem NearestEven.le_abs_sub {m : ℕ} {y : ℝ} (h : NearestEven m y) (k : ℤ) :
    |(m : ℝ) - y| ≤ |(k : ℝ) - y| := by
  by_cases hk : k = m
  · simp [hk]
  · exact h.near.trans (h.half_le hk)

theorem NearestEven.le_nat {m : ℕ} {y : ℝ} (h : NearestEven m y) {k : ℕ} (hy : y ≤ k) : m ≤ k := by
  have hlt : (m : ℝ) < k + 1 := by linarith [(abs_le.1 h.near).2]
  exact Nat.lt_add_one_iff.1 (by exact_mod_cast hlt)

theorem NearestEven.nat_le {m : ℕ} {y : ℝ} (h : NearestEven m y) {k : ℕ} (hy : k ≤ y) : k ≤ m := by
  have hlt : (k : ℝ) < m + 1 := by linarith [(abs_le.1 h.near).1]
  exact Nat.lt_add_one_iff.1 (by exact_mod_cast hlt)

/-- `rne` (R251). -/
theorem nearestEven_roundNearestEven (n : ℕ) {d : ℕ} (hd : 0 < d) :
    NearestEven (roundNearestEven n d) ((n : ℝ) / d) := by
  have hdpos : (0 : ℝ) < d := by exact_mod_cast hd
  have hmod := Nat.mod_lt n hd
  have hsplit := Nat.div_add_mod n d
  have hhalf : ((n / d : ℕ) : ℝ) + 1 / 2 = (2 * (d * (n / d)) + d : ℕ) / (2 * d) := by
    push_cast
    field_simp
  have hdouble : (n : ℝ) / d = (2 * n : ℕ) / (2 * d) := by
    push_cast
    field_simp
  refine nearestEven_ite Nat.cast_div_le ?_ ?_ ?_
  · rw [div_lt_iff₀' hdpos]
    exact_mod_cast (Nat.lt_mul_div_succ n hd)
  · rw [hhalf, hdouble, div_lt_div_iff_of_pos_right (by positivity), Nat.cast_lt]
    omega
  · rw [hhalf, hdouble, div_lt_div_iff_of_pos_right (by positivity), Nat.cast_lt]
    omega

/-- The bits that `isqrtFrom` has not yet set are enough to pass the root. -/
theorem lt_isqrtFrom_succ_sq (k r x : ℕ) (h : x < (r + 2 ^ k) ^ 2) :
    x < (isqrtFrom k r x + 1) ^ 2 := by
  induction k generalizing r with
  | zero => exact h
  | succ k ih =>
    rw [isqrtFrom]
    split
    · exact ih _ (h.trans_eq (by ring))
    · next hbit => exact ih _ (by rwa [sq, ← not_le])

/-- `isqrt` is the integer square root of a number below `4 ^ 26`. -/
theorem isqrt_bounds {x : ℕ} (h : x < 4 ^ 26) : isqrt x ^ 2 ≤ x ∧ x < (isqrt x + 1) ^ 2 :=
  ⟨isqrtFrom_sq_le 26 0 x (Nat.zero_le x), lt_isqrtFrom_succ_sq 26 0 x (h.trans_eq (by norm_num))⟩

/-- The rounded root of a fraction below `4 ^ 26` (R259). -/
theorem nearestEven_roundSqrt {n d : ℕ} (hd : 0 < d) (hlt : n < d * 4 ^ 26) :
    NearestEven (roundSqrt n d) (√((n : ℝ) / d)) := by
  have hdpos : (0 : ℝ) < d := by exact_mod_cast hd
  obtain ⟨hlow, hhigh⟩ := isqrt_bounds (Nat.div_lt_of_lt_mul hlt)
  unfold roundSqrt
  generalize isqrt (n / d) = r at hlow hhigh
  have hhalf : ((r : ℝ) + 1 / 2) ^ 2 = (d * (4 * r * r + 4 * r + 1) : ℕ) / (4 * d) := by
    push_cast
    field_simp
    ring
  have hfour : (n : ℝ) / d = (4 * n : ℕ) / (4 * d) := by
    push_cast
    field_simp
  refine nearestEven_ite ?_ ?_ ?_ ?_
  · rw [Nat.le_div_iff_mul_le hd] at hlow
    rw [Real.le_sqrt (by positivity) (by positivity), le_div_iff₀ hdpos]
    exact_mod_cast hlow
  · rw [Nat.div_lt_iff_lt_mul hd] at hhigh
    rw [Real.sqrt_lt' (by positivity), div_lt_iff₀ hdpos]
    exact_mod_cast hhigh
  · rw [Real.sqrt_lt' (by positivity), hhalf, hfour,
      div_lt_div_iff_of_pos_right (by positivity), Nat.cast_lt]
  · rw [Real.lt_sqrt (by positivity), hhalf, hfour,
      div_lt_div_iff_of_pos_right (by positivity), Nat.cast_lt]

/-! ### The values between which a result is chosen (R250) -/

theorem magnitude_eq_scaleDown (v : F32) :
    magnitude v = scaleDown (significand v) 1 (150 - scaleField v) := by
  unfold magnitude scaleDown
  split_ifs with hge hle hle
  · obtain heq : scaleField v = 150 := by omega
    simp [heq]
  · rw [show (-(150 - (scaleField v : ℤ))).toNat = scaleField v - 150 by omega]
  · rw [one_mul, show (150 - (scaleField v : ℤ)).toNat = 150 - scaleField v by omega]
  · omega

/-- The size of a value, with or without a sign. -/
theorem abs_floatValue (v : F32) :
    |floatValue v| = significand v * (2 : ℚ) ^ ((scaleField v : ℤ) - 150) := by
  have habs : |floatValue v| = ((magnitude v).1 : ℚ) / (magnitude v).2 := by
    unfold floatValue ratValue valueOf
    split <;> simp [abs_div]
  rw [habs, magnitude_eq_scaleDown, scaleDown_eq, Nat.cast_one, div_one, div_eq_mul_inv, ← zpow_neg,
    neg_sub]

/-- A value is a multiple of the unit in which results with exponent `e` are rounded, or smaller
than all normal ones of them. -/
theorem floatValue_multiple_or_small (v : F32) {e : ℤ} (he : -126 ≤ e) :
    (∃ k : ℤ, floatValue v = k * 2 ^ (e - 23)) ∨ (-126 < e ∧ |floatValue v| < 2 ^ e) := by
  have hone := one_le_scaleField v
  rcases le_or_gt (e - 23) (scaleField v - 150) with hunit | hunit
  · obtain ⟨j, hj⟩ := Int.eq_ofNat_of_zero_le (sub_nonneg.2 hunit)
    have habs : |floatValue v| = ((significand v * 2 ^ j : ℕ) : ℤ) * 2 ^ (e - 23) := by
      rw [abs_floatValue, zpow_eq_units (e := e) (j := j) (by omega)]
      push_cast
      ring
    left
    rcases eq_or_eq_neg_of_abs_eq habs with h | h
    · exact ⟨_, h⟩
    · exact ⟨-((significand v * 2 ^ j : ℕ) : ℤ), by rw [h]; push_cast; ring⟩
  · have hsig : (significand v : ℚ) < 2 ^ (24 : ℤ) := by exact_mod_cast significand_lt v
    refine .inr ⟨by omega, ?_⟩
    calc |floatValue v| < 2 ^ (24 : ℤ) * 2 ^ ((scaleField v : ℤ) - 150) := by
          rw [abs_floatValue]
          gcongr
      _ = 2 ^ (24 + ((scaleField v : ℤ) - 150)) := (zpow_add₀ two_ne_zero _ _).symm
      _ ≤ 2 ^ e := zpow_le_zpow_right₀ one_le_two (by omega)

/-! ### The nearest value (R250, R251) -/

/-- `r` is a finite value, no finite value is nearer to `x`, and of two equally near ones it is the
one with even fraction field. -/
structure IsNearest (r : F32) (x : ℝ) : Prop where
  finite : isFinite r
  near : ∀ v : F32, isFinite v → |(floatValue r : ℝ) - x| ≤ |(floatValue v : ℝ) - x|
  even_of_tie : ∀ v : F32, isFinite v → |(floatValue r : ℝ) - x| = |(floatValue v : ℝ) - x| →
    floatValue v ≠ floatValue r → fracField r % 2 = 0

/-- The distance of `k` units from `x`, in units. -/
theorem abs_units_sub (k : ℝ) (x : ℝ) (p : ℤ) :
    |k * 2 ^ p - x| = |k - x / 2 ^ p| * 2 ^ p := by
  have hunit : (0 : ℝ) < 2 ^ p := by positivity
  rw [← abs_of_pos hunit, ← abs_mul, abs_of_pos hunit, sub_mul, div_mul_cancel₀ _ hunit.ne']

theorem abs_sub_lt_of_lt {f p x : ℝ} (hf : f < p) (hp : p ≤ x) : |p - x| < |f - x| := by
  rw [abs_of_nonpos (by linarith), abs_of_neg (by linarith)]
  linarith

/-- The nearest integer of units is the nearest value: every other one is an integer of these units
as well, or too small. -/
theorem isNearest_of_units {r : F32} {e : ℤ} {m : ℕ} {x : ℝ} (he : -126 ≤ e)
    (hexp : e = -126 ∨ 2 ^ e ≤ x) (hm : NearestEven m (x / 2 ^ (e - 23))) (hfin : isFinite r)
    (hvalue : floatValue r = m * 2 ^ (e - 23)) (hfrac : fracField r % 2 = m % 2) :
    IsNearest r x := by
  have hunit : (0 : ℝ) < 2 ^ (e - 23) := by positivity
  have hcast {v : F32} {k : ℤ} (hk : floatValue v = k * 2 ^ (e - 23)) :
      |(floatValue v : ℝ) - x| = |(k : ℝ) - x / 2 ^ (e - 23)| * 2 ^ (e - 23) := by
    rw [← abs_units_sub, hk]
    push_cast
    rfl
  have hresult : |(floatValue r : ℝ) - x| = |(m : ℝ) - x / 2 ^ (e - 23)| * 2 ^ (e - 23) := by
    exact_mod_cast hcast (k := m) (by exact_mod_cast hvalue)
  have hsmall {v : F32} (hlt : -126 < e) (hv : |floatValue v| < 2 ^ e) :
      |(floatValue r : ℝ) - x| < |(floatValue v : ℝ) - x| := by
    have hv' : (floatValue v : ℝ) < 2 ^ e := by
      simpa using (Rat.cast_lt (K := ℝ)).2 ((le_abs_self _).trans_lt hv)
    have hpow : (2 : ℝ) ^ e = ((2 ^ 23 : ℤ) : ℝ) * 2 ^ (e - 23) := by
      simpa using congrArg (Rat.cast (K := ℝ)) (zpow_eq_units (e := e) (f := e) (j := 23) (by ring))
    calc |(floatValue r : ℝ) - x| ≤ |2 ^ e - x| := by
          rw [hresult, hpow, abs_units_sub]
          exact mul_le_mul_of_nonneg_right (hm.le_abs_sub _) hunit.le
      _ < |(floatValue v : ℝ) - x| := abs_sub_lt_of_lt hv' (hexp.resolve_left hlt.ne')
  refine ⟨hfin, fun v _ => ?_, fun v _ htie hne => ?_⟩ <;>
    rcases floatValue_multiple_or_small v he with ⟨k, hk⟩ | ⟨hlt, hv⟩
  · rw [hresult, hcast hk]
    exact mul_le_mul_of_nonneg_right (hm.le_abs_sub k) hunit.le
  · exact (hsmall hlt hv).le
  · have hkm : k ≠ m := by
      rintro rfl
      exact hne (by rw [hk, hvalue, Int.cast_natCast])
    rw [hresult, hcast hk] at htie
    have htie' := mul_right_cancel₀ hunit.ne' htie
    rw [hfrac]
    exact hm.even_of_tie (le_antisymm hm.near (htie' ▸ hm.half_le hkm))
  · exact absurd htie (hsmall hlt hv).ne

/-- The fields of a packed magnitude that stays below infinity. -/
theorem packed_fields {e : ℤ} {m : ℕ} (hfinite : (e + 126).toNat * 2 ^ 23 + m < 0x7F800000) :
    isFinite (packSign false (packMagnitude e m)) ∧
      fracField (packSign false (packMagnitude e m)) % 2 = m % 2 := by
  have hnat : (packSign false (packMagnitude e m)).toNat = (e + 126).toNat * 2 ^ 23 + m := by
    simp only [packSign, packMagnitude, Bool.false_eq_true, if_false, BitVec.toNat_ofNat]
    omega
  generalize packSign false (packMagnitude e m) = v at hnat
  have hfields := toNat_eq_fields v
  have hfrac := fracField_lt v
  unfold isFinite
  split at hfields <;> omega

/-- A magnitude rounded in the units of its exponent stays below infinity up to the midpoint between
the largest finite value and `2 ^ 128` (log entry 21). -/
theorem packed_lt_infinity {e : ℤ} {m : ℕ} {x : ℝ} (hle : m ≤ 2 ^ 24)
    (hexp : e = -126 ∨ 2 ^ e ≤ x) (hmax : x < 2 ^ 128 - 2 ^ 103)
    (hm : NearestEven m (x / 2 ^ (e - 23))) :
    (e + 126).toNat * 2 ^ 23 + m < 0x7F800000 := by
  have he : e < 128 := by
    rcases hexp with rfl | h
    · decide
    · refine (zpow_lt_zpow_iff_right₀ (one_lt_two (α := ℝ))).1 (h.trans_lt (hmax.trans ?_))
      norm_num
  rcases (show e ≤ 127 by omega).lt_or_eq with hlt | rfl
  · omega
  · have hhalf : x / 2 ^ ((127 : ℤ) - 23) < 2 ^ 24 - 1 / 2 := by
      rw [div_lt_iff₀ (by positivity)]
      exact hmax.trans_eq (by norm_num)
    have hlt : (m : ℝ) < 2 ^ 24 := by linarith [(abs_le.1 hm.near).2]
    have : m < 2 ^ 24 := by exact_mod_cast hlt
    omega

/-- A magnitude rounded in the units of its exponent and packed has the value of its integer of
units, and is the nearest value. -/
theorem packed_nearest {e : ℤ} {m : ℕ} {x : ℝ} (he : -126 ≤ e) (hexp : e = -126 ∨ 2 ^ e ≤ x)
    (hhigh : x < 2 ^ (e + 1)) (hmax : x < 2 ^ 128 - 2 ^ 103)
    (hm : NearestEven m (x / 2 ^ (e - 23))) :
    floatValue (packSign false (packMagnitude e m)) = m * 2 ^ (e - 23) ∧
      IsNearest (packSign false (packMagnitude e m)) x := by
  have hpow (j : ℕ) : ((2 ^ j : ℕ) : ℝ) = 2 ^ (j + (e - 23)) / 2 ^ (e - 23) := by
    rw [zpow_add₀ two_ne_zero, mul_div_cancel_right₀ _ (by positivity)]
    norm_cast
  have hle : m ≤ 2 ^ 24 := hm.le_nat <| by
    rw [hpow]
    gcongr
    exact hhigh.le.trans_eq (by congr 1; push_cast; ring)
  have hnormal : e = -126 ∨ 2 ^ 23 ≤ m := hexp.imp_right fun h => hm.nat_le <| by
    rw [hpow]
    gcongr
    exact Eq.trans_le (by congr 1; push_cast; ring) h
  have hfinite := packed_lt_infinity hle hexp hmax hm
  obtain ⟨hfin, hfrac⟩ := packed_fields hfinite
  have hvalue := (floatValue_packed he hle hnormal hfinite).2
  exact ⟨hvalue, isNearest_of_units he hexp hm hfin hvalue hfrac⟩

/-! ### `rnd32` (R251) -/

theorem scaleDown_eq_real (n d : ℕ) (k : ℤ) :
    ((scaleDown n d k).1 : ℝ) / (scaleDown n d k).2 = (n : ℝ) / d / 2 ^ k := by
  simpa using congrArg (Rat.cast (K := ℝ)) (scaleDown_eq n d k)

theorem rnd32_of_pos {n : ℕ} (hn : 0 < n) (d : ℕ) :
    rnd32 ⟨n, d⟩ = packSign false (roundMagnitude n d) := by
  simp [rnd32, hn.ne', show ¬ (n : ℤ) < 0 by omega]

theorem rnd32_of_neg {n : ℕ} (hn : 0 < n) (d : ℕ) :
    rnd32 ⟨-n, d⟩ = packSign true (roundMagnitude n d) := by
  simp [rnd32, hn.ne', hn]

/-- The two signs of a magnitude differ in bit 31 alone. -/
theorem packSign_true (m : ℕ) : packSign true m = packSign false m ^^^ 0x80000000#32 := by
  rw [show 0x80000000#32 = BitVec.twoPow 32 31 by decide]
  refine BitVec.eq_of_getLsbD_eq fun i hi => ?_
  rw [BitVec.getLsbD_xor, BitVec.getLsbD_twoPow, packSign, packSign, BitVec.getLsbD_ofNat,
    BitVec.getLsbD_ofNat, if_pos rfl, if_neg Bool.false_ne_true, zero_add]
  rcases (Nat.le_of_lt_succ hi).lt_or_eq with hlow | rfl
  · simp [Nat.testBit_two_pow_add_gt hlow, hlow.ne']
  · rw [Nat.testBit_two_pow_add_eq]
    simp

/-- `rnd32` of a positive magnitude below the midpoint between the largest finite value and `2 ^ 128`
(log entry 21): the integer nearest to it in the units of its exponent, which is the nearest
value. -/
theorem rnd32_nearest {n d : ℕ} (hn : 0 < n) (hd : 0 < d)
    (hmax : (n : ℝ) / d < 2 ^ 128 - 2 ^ 103) :
    (∃ (e : ℤ) (m : ℕ), (e = -126 ∨ (2 : ℚ) ^ e ≤ n / d) ∧ (n : ℚ) / d < 2 ^ (e + 1) ∧
      NearestEven m ((n : ℝ) / d / 2 ^ (e - 23)) ∧
      floatValue (rnd32 ⟨n, d⟩) = m * 2 ^ (e - 23)) ∧
    IsNearest (rnd32 ⟨n, d⟩) ((n : ℝ) / d) := by
  obtain ⟨hmin, hexp, hhigh⟩ := roundExponent_bounds hn hd
  rw [rnd32_of_pos hn, roundMagnitude]
  generalize roundExponent (floorLog2 n d) = e at hmin hexp hhigh
  have hm := nearestEven_roundNearestEven (scaleDown n d (e - 23)).1
    (scaleDown_den_pos n hd (e - 23))
  rw [scaleDown_eq_real] at hm
  have hexp' : e = -126 ∨ (2 : ℝ) ^ e ≤ n / d :=
    hexp.imp_right fun h => by simpa using (Rat.cast_le (K := ℝ)).2 h
  have hhigh' : (n : ℝ) / d < 2 ^ (e + 1) := by simpa using (Rat.cast_lt (K := ℝ)).2 hhigh
  obtain ⟨hvalue, hnearest⟩ := packed_nearest hmin hexp' hhigh' hmax hm
  exact ⟨⟨e, _, hexp, hhigh, hm, hvalue⟩, hnearest⟩

/-- Settles O31: the nearest value comes from the nearest integer of units, and a negative magnitude
differs in the sign alone. -/
theorem roundingIsNearestEven : Obligations.RoundingIsNearestEven := by
  refine ⟨fun n d hn hd _ hlt => ?_, fun _ => rfl⟩
  have hmax : (n : ℝ) / d < 2 ^ 128 - 2 ^ 103 := by
    rw [div_lt_iff₀' (by exact_mod_cast hd)]
    calc (n : ℝ) < (d * (2 ^ 128 - 2 ^ 103) : ℕ) := Nat.cast_lt.2 hlt
      _ = d * (2 ^ 128 - 2 ^ 103) := by norm_num
  obtain ⟨-, hfin, hnear, heven⟩ := rnd32_nearest hn hd hmax
  have hcast (v : F32) : ((|floatValue v - n / d| : ℚ) : ℝ) = |(floatValue v : ℝ) - n / d| := by
    push_cast
    rfl
  refine ⟨hfin, by rw [rnd32_of_neg hn, rnd32_of_pos hn, packSign_true],
    fun v hv => ⟨?_, fun htie => heven v hv ?_⟩⟩
  · rw [← Rat.cast_le (K := ℝ), hcast, hcast]
    exact hnear v hv
  · rw [← hcast, ← hcast, htie]

/-! ### `fsqrt` (R259) -/

/-- The exponent of a root is half that of the value. -/
theorem sqrt_roundExponent_bounds {n d : ℕ} (hn : 0 < n) (hd : 0 < d) :
    (roundExponent (floorLog2 n d / 2) = -126 ∨
        (2 : ℚ) ^ (2 * roundExponent (floorLog2 n d / 2)) ≤ n / d) ∧
      (n : ℚ) / d < 2 ^ (2 * (roundExponent (floorLog2 n d / 2) + 1)) := by
  obtain ⟨hlow, hhigh⟩ := floorLog2_bounds hn hd
  have hcase : roundExponent (floorLog2 n d / 2) = -126 ∨
      2 * roundExponent (floorLog2 n d / 2) ≤ floorLog2 n d := by
    unfold roundExponent
    omega
  refine ⟨hcase.imp_right fun h => (zpow_le_zpow_right₀ one_le_two h).trans hlow,
    hhigh.trans_le (zpow_le_zpow_right₀ one_le_two ?_)⟩
  unfold roundExponent
  omega

theorem zpow_two_mul_real (k : ℤ) : (2 : ℝ) ^ (2 * k) = (2 ^ k) ^ 2 := by
  rw [mul_comm, zpow_mul]
  norm_cast

/-- The root of a magnitude below `4 ^ 127`, rounded in the units of its exponent. -/
theorem isNearest_sqrtMagnitude {n d : ℕ} (hn : 0 < n) (hd : 0 < d)
    (hlt : (n : ℝ) / d < 2 ^ 254) :
    IsNearest (packSign false (sqrtMagnitude n d)) (√((n : ℝ) / d)) := by
  obtain ⟨hexp, hhigh⟩ := sqrt_roundExponent_bounds hn hd
  have hmin : -126 ≤ roundExponent (floorLog2 n d / 2) := le_max_right _ _
  rw [sqrtMagnitude]
  generalize roundExponent (floorLog2 n d / 2) = e at hmin hexp hhigh
  have hexp' : e = -126 ∨ (2 : ℝ) ^ e ≤ √((n : ℝ) / d) := hexp.imp_right fun h => by
    rw [Real.le_sqrt (by positivity) (by positivity), ← zpow_two_mul_real]
    simpa using (Rat.cast_le (K := ℝ)).2 h
  have hhigh' : √((n : ℝ) / d) < 2 ^ (e + 1) := by
    rw [Real.sqrt_lt' (by positivity), ← zpow_two_mul_real]
    simpa using (Rat.cast_lt (K := ℝ)).2 hhigh
  have hmax : √((n : ℝ) / d) < 2 ^ 128 - 2 ^ 103 := by
    rw [Real.sqrt_lt' (by norm_num)]
    exact hlt.trans (by norm_num)
  have hden := scaleDown_den_pos n hd (2 * (e - 23))
  have hscaled : (scaleDown n d (2 * (e - 23))).1 ≤ (scaleDown n d (2 * (e - 23))).2 * 4 ^ 24 := by
    rw [scaleDown_le_iff hd]
    refine hhigh.le.trans_eq ?_
    rw [show 2 * (e + 1) = 48 + 2 * (e - 23) by ring, zpow_add₀ two_ne_zero]
    norm_num
  have hm := nearestEven_roundSqrt hden
    (hscaled.trans_lt (Nat.mul_lt_mul_of_pos_left (by norm_num) hden))
  rw [scaleDown_eq_real, zpow_two_mul_real, Real.sqrt_div' _ (by positivity),
    Real.sqrt_sq (by positivity)] at hm
  exact (packed_nearest hmin hexp' hhigh' hmax hm).2

theorem floatValue_pos {v : F32} (hsign : signBit v = false) (h : 0 < v.toNat) :
    0 < floatValue v :=
  floatValue_zero.symm.trans_lt (floatValue_lt_of_toNat_lt (v := 0#32) (by decide) hsign h)

/-- A finite value is below `2 ^ 128`. -/
theorem floatValue_lt_of_finite {v : F32} (hfin : isFinite v) : floatValue v < 2 ^ (128 : ℤ) := by
  have hscale : (scaleField v : ℤ) - 150 ≤ 104 := by
    unfold isFinite at hfin
    unfold scaleField
    omega
  have hsig : (significand v : ℚ) < 2 ^ (24 : ℤ) := by exact_mod_cast significand_lt v
  calc floatValue v ≤ significand v * 2 ^ ((scaleField v : ℤ) - 150) :=
        (le_abs_self _).trans_eq (abs_floatValue v)
    _ < 2 ^ (24 : ℤ) * 2 ^ ((scaleField v : ℤ) - 150) := by gcongr
    _ ≤ 2 ^ (24 : ℤ) * 2 ^ (104 : ℤ) := by gcongr; exact one_le_two
    _ = 2 ^ (128 : ℤ) := by norm_num

theorem num_pos_of_ratValue_pos {q : Ratio} (hd : 0 < q.den) (h : 0 < ratValue q) : 0 < q.num := by
  have hden : (0 : ℚ) < q.den := by exact_mod_cast hd
  exact_mod_cast (div_pos_iff_of_pos_right hden).1 h

/-- `fsqrt` of a positive value rounds the root of its magnitude. -/
theorem fsqrt_of_pos {a : F32} (h : 0 < floatValue a) :
    ∃ n d : ℕ, 0 < n ∧ 0 < d ∧ floatValue a = n / d ∧
      fsqrt a = packSign false (sqrtMagnitude n d) := by
  have hnum : 0 < (valueOf a).num := num_pos_of_ratValue_pos (valueOf_den_pos a) h
  refine ⟨_, _, Int.natAbs_pos.2 hnum.ne', valueOf_den_pos a, ?_, ?_⟩
  · rw [Nat.cast_natAbs, abs_of_pos hnum]
    rfl
  · rw [fsqrt, if_neg (not_le.2 hnum)]
    simp [packSign]

/-- Settles O32: the rounded integer root is the nearest integer of units to the real root. -/
theorem squareRootIsNearest : Obligations.SquareRootIsNearest := by
  refine ⟨fun a hfin hsign hnormal => ?_, by decide⟩
  obtain ⟨n, d, hn, hd, hvalue, hroot⟩ := fsqrt_of_pos (floatValue_pos hsign (by omega))
  have hvalue' : (floatValue a : ℝ) = n / d := by simp [hvalue]
  have hlt : (n : ℝ) / d < 2 ^ 254 := by
    rw [← hvalue']
    have hlt' := (Rat.cast_lt (K := ℝ)).2 (floatValue_lt_of_finite hfin)
    exact hlt'.trans (by norm_num)
  obtain ⟨hfinite, hnear, heven⟩ := isNearest_sqrtMagnitude hn hd hlt
  rw [← hroot, ← hvalue'] at hnear heven
  exact ⟨hroot ▸ hfinite, fun v hv => ⟨hnear v hv, heven v hv⟩⟩

/-! ### The reference bytes (R253, R255, R262, R263) -/

/-- The byte of a value from 0.0 to 1.0 does not pass a number that the exact product with 255
passes by less than one half. -/
theorem toNat_quant_le {v : F32} {k : ℕ} (hsign : signBit v = false) (hle : floatValue v ≤ 1)
    (hk : floatValue v * 255 ≤ k + 1 / 2) : (quant v).toNat ≤ k := by
  have hround := rounded_fmul hsign (b := f255) (by decide)
  rw [floatValue_f255] at hround
  replace hround := hround (by linarith : floatValue v * 255 < 2 ^ (24 : ℤ))
  have herr : max (floatValue v * 255) (2 ^ (-126 : ℤ)) / 2 ^ 24 ≤ 255 / 2 ^ 24 := by
    gcongr
    exact max_le (by linarith) (by norm_num)
  have hlt : floatValue (fmul v f255) < (k + 1 : ℕ) := by
    push_cast
    linarith [(abs_le.1 hround.near).2]
  rw [quant, floorNat_valueOf hround.positive, BitVec.toNat_ofNat]
  exact (Nat.mod_le _ _).trans <| Nat.lt_add_one_iff.1 <|
    (Nat.floor_lt (floatValue_nonneg hround.positive)).2 hlt

/-- The binary expansion of `c / 255` repeats the byte `c`, so after 24 places what is left is
`c / 255` again: at least one half, and rounded up. -/
theorem NearestEven.repeated_byte_le {m c : ℕ} (h : NearestEven m ((c : ℝ) * 2 ^ 24 / 255))
    (hlow : 128 ≤ c) (hhigh : c ≤ 255) : c * 2 ^ 24 ≤ m * 255 := by
  have hsplit : (c : ℝ) * 2 ^ 24 / 255 = (c * 65793 : ℕ) + c / 255 := by
    push_cast
    ring
  have hlow' : (128 : ℝ) ≤ c := by exact_mod_cast hlow
  rw [hsplit] at h
  have hlt : ((c * 65793 : ℕ) : ℝ) < m := by linarith [(abs_le.1 h.near).1]
  have hsucc : c * 65793 < m := by exact_mod_cast hlt
  omega

/-- The exponent of a byte over 255, short of 1, leaves the byte shifted up to its highest bit. -/
theorem exists_shift_of_byte {x : ℕ} {e : ℤ} (hx : 0 < x) (hx' : x < 255)
    (hexp : e = -126 ∨ (2 : ℚ) ^ e ≤ x / 255) (hhigh : (x : ℚ) / 255 < 2 ^ (e + 1)) :
    ∃ k : ℕ, e = -(k + 1 : ℕ) ∧ 128 ≤ x * 2 ^ k ∧ x * 2 ^ k ≤ 255 := by
  have hx1 : (1 : ℚ) ≤ x := by exact_mod_cast hx
  have hx2 : (x : ℚ) < 255 := by exact_mod_cast hx'
  have hlow : -8 < e + 1 := by
    rw [← zpow_lt_zpow_iff_right₀ (one_lt_two (α := ℚ))]
    refine lt_of_le_of_lt ?_ hhigh
    norm_num
    linarith
  replace hexp := hexp.resolve_left (by omega)
  have hneg : e < 0 := by
    rw [← zpow_lt_zpow_iff_right₀ (one_lt_two (α := ℚ)), zpow_zero]
    exact hexp.trans_lt (by linarith)
  obtain ⟨k, hk⟩ := Int.eq_ofNat_of_zero_le (show 0 ≤ -1 - e by omega)
  obtain rfl : e = -(k + 1 : ℕ) := by omega
  refine ⟨k, rfl, ?_, ?_⟩
  · rw [zpow_neg, zpow_natCast, pow_succ, inv_le_iff_one_le_mul₀ (by positivity)] at hexp
    have hdouble : (255 : ℚ) ≤ (2 * (x * 2 ^ k) : ℕ) := by push_cast; linarith
    have : 255 ≤ 2 * (x * 2 ^ k) := by exact_mod_cast hdouble
    omega
  · rw [show (-((k + 1 : ℕ) : ℤ) + 1) = -(k : ℤ) by push_cast; ring, zpow_neg, zpow_natCast,
      lt_inv_comm₀ (by positivity) (by positivity), inv_div, lt_div_iff₀' (by positivity)] at hhigh
    exact_mod_cast hhigh.le

/-- A value in the units of exponent `-(k + 1)`. -/
theorem div_zpow_unit {K : Type} [Field K] [CharZero K] (y : K) (k : ℕ) :
    y / 2 ^ (-((k + 1 : ℕ) : ℤ) - 23) = y * 2 ^ k * 2 ^ 24 := by
  rw [show -((k + 1 : ℕ) : ℤ) - 23 = -((k + 24 : ℕ) : ℤ) by push_cast; ring, zpow_neg,
    zpow_natCast, div_inv_eq_mul, pow_add, mul_assoc]

/-- A byte over 255 is never rounded down (R251). -/
theorem byteQuotient_le_rnd32 {q : Ratio} {x : ℕ} (hd : 0 < q.den) (hx : 0 < x) (hx' : x < 255)
    (hq : ratValue q = x / 255) : (x : ℚ) / 255 ≤ floatValue (rnd32 q) := by
  have hnum : 0 < q.num := num_pos_of_ratValue_pos hd (by rw [hq]; positivity)
  obtain ⟨num, d⟩ := q
  obtain ⟨n, rfl⟩ := Int.eq_ofNat_of_zero_le hnum.le
  replace hq : (n : ℚ) / d = x / 255 := by simpa [ratValue] using hq
  have hq' : (n : ℝ) / d = x / 255 := by simpa using congrArg (Rat.cast (K := ℝ)) hq
  have hmax : (n : ℝ) / d < 2 ^ 128 - 2 ^ 103 := by
    have hlt : (x : ℝ) < 255 := by exact_mod_cast hx'
    rw [hq']
    linarith
  obtain ⟨⟨e, m, hexp, hhigh, hm, hvalue⟩, -⟩ :=
    rnd32_nearest (Int.natCast_pos.1 hnum) hd hmax
  rw [hq] at hexp hhigh
  obtain ⟨k, rfl, hlow, hle⟩ := exists_shift_of_byte hx hx' hexp hhigh
  have hunits : (n : ℝ) / d / 2 ^ (-((k + 1 : ℕ) : ℤ) - 23) = (x * 2 ^ k : ℕ) * 2 ^ 24 / 255 := by
    rw [div_zpow_unit, hq']
    push_cast
    ring
  rw [hunits] at hm
  have hm' : ((x * 2 ^ k * 2 ^ 24 : ℕ) : ℚ) ≤ (m * 255 : ℕ) :=
    Nat.cast_le.2 (hm.repeated_byte_le hlow hle)
  rw [hvalue, ← div_le_iff₀ (by positivity), div_zpow_unit]
  push_cast at hm'
  linarith

/-- A reference byte is never rounded down when it is normalised: 255 is exact, every other byte is
rounded up. -/
theorem div_le_floatValue_normRef (x : Byte) : (x.toNat : ℚ) / 255 ≤ floatValue (normRef x) := by
  have hbyte : floatValue (u8ToF x) = x.toNat :=
    (rounded_intToF (k := x.toNat) (x.isLt.trans (by decide))).exact
  have hsign : signBit (u8ToF x) = false := by simp [u8ToF, signBit_rnd32]
  rcases (Nat.lt_succ_iff.1 x.isLt).lt_or_eq with hlt | hmax
  · rcases x.toNat.eq_zero_or_pos with hzero | hpos
    · simpa [hzero] using floatValue_nonneg (approximates_normRef x).positive
    · have hq : ratValue (ratioDiv (valueOf (u8ToF x)) (valueOf f255)) = x.toNat / 255 := by
        rw [ratValue_ratioDiv (by decide), ← hbyte, ← floatValue_f255]
        rfl
      exact byteQuotient_le_rnd32
        (Nat.mul_pos (valueOf_den_pos _) (Int.natAbs_pos.2 (by decide))) hpos hlt hq
  · rw [hmax]
    have hround := rounded_fdiv hsign (b := f255) (by decide)
    rw [hbyte, floatValue_f255, hmax] at hround
    have hone := (hround (by norm_num)).nat_le 1 (by norm_num)
    exact (by norm_num : ((255 : ℕ) : ℚ) / 255 ≤ (1 : ℕ)).trans hone

/-- Settles O30: normalisation does not go below the byte over 255, and stays close enough above it
that the product with 255, rounded, does not reach the next byte. -/
theorem referenceBytesSurvive : Obligations.ReferenceBytesSurvive := by
  intro x
  change quant (normRef x) = x
  have hnorm := approximates_normRef x
  have hle : floatValue (normRef x) ≤ 1 := by exact_mod_cast hnorm.le
  refine BitVec.eq_of_toNat_eq (le_antisymm ?_ ?_)
  · refine toNat_quant_le hnorm.positive hle ?_
    linarith [(abs_le.1 hnorm.near).2]
  · refine le_toNat_quant hnorm.positive hle ?_
    linarith [div_le_floatValue_normRef x]

end Sys2Proof.Machine
end

section
/-!
An asserted reset (spec/10_state.md R37; spec/70_reset_and_hazards.md R310, R311).
-/

namespace Sys2Proof.Machine

/-- Reset in an environment is the reset state placed there: no register depends on the
environment (R310). -/
theorem State.resetIn_eq_reset_withEnv (e : Env) :
    State.resetIn e = { State.reset with env := e } := rfl

/-- A step with reset asserted neither runs a micro-operation nor serves a move, whatever is in
progress (R311). -/
theorem step_reset {s : State} (hreset : s.resetAsserted = true) :
    step s = .next (State.resetIn s.tick.env) := by
  rcases step_cases s with ⟨-, e⟩ | ⟨hnot, -, -⟩ | ⟨hnot, -, -⟩
  · exact e
  · exact absurd (hreset.symm.trans hnot) (by decide)
  · exact absurd (hreset.symm.trans hnot) (by decide)

/-- Settles O9, by `step_reset`: the environment loses the asserted level alone, and the three
values of the reset state are among those of O10. -/
theorem resetEndsWhateverRuns : Obligations.ResetEndsWhateverRuns := by
  intro s rest hlevel
  have hasserted : s.resetAsserted = true := by simp [State.resetAsserted, hlevel]
  obtain ⟨-, -, -, -, hseq, -, hvalid, herr, -⟩ := resetLeavesTheSpecValues
  refine ⟨?_, herr, hseq, hvalid⟩
  rw [step_reset hasserted, State.resetIn_eq_reset_withEnv, State.tick_env, hlevel, List.tail_cons]

end Sys2Proof.Machine
end
